-- ==== Sys2Proof/Word.lean ====
section
/-! DEFINITION. The two widths of the machine (00_scope.md R4, R7): bytes and 16-bit addresses. -/

namespace Sys2Proof

/-- 8 bits: a register, a memory byte, an operand byte (00_scope.md R7). -/
abbrev Byte := BitVec 8

/-- 16 bits: a program counter, an effective address, a pointer, a target (00_scope.md R7). -/
abbrev Addr := BitVec 16

end Sys2Proof
end

