-- ==== Sys2Proof/Syntax.lean ====
section
/-! DEFINITION. The instructions (30_encoding.md R81, R86): one constructor for each of the 151 defined rows of the opcode table, its
operand bytes as fields, and `illegal op` for the 105 rows the table names ILLEGAL (R88; log entry 1). A constructor is named after its
mnemonic and its addressing mode. Immediates, zero-page addresses and branch offsets are the operand byte as it stands; absolute operands
and the JMP pointer are the assembled 16-bit value (R83). -/

namespace Sys2Proof

/-- An instruction: the opcode byte's row and its operand. -/
inductive Instr where
  -- LDA, load accumulator (R120)
  | ldaImm (v : Byte)
  | ldaZp (zp : Byte)
  | ldaZpx (zp : Byte)
  | ldaAbs (addr : Addr)
  | ldaAbsx (addr : Addr)
  | ldaAbsy (addr : Addr)
  | ldaIndx (zp : Byte)
  | ldaIndy (zp : Byte)
  -- LDX, load X (R121)
  | ldxImm (v : Byte)
  | ldxZp (zp : Byte)
  | ldxZpy (zp : Byte)
  | ldxAbs (addr : Addr)
  | ldxAbsy (addr : Addr)
  -- LDY, load Y (R122)
  | ldyImm (v : Byte)
  | ldyZp (zp : Byte)
  | ldyZpx (zp : Byte)
  | ldyAbs (addr : Addr)
  | ldyAbsx (addr : Addr)
  -- STA, store accumulator (R123)
  | staZp (zp : Byte)
  | staZpx (zp : Byte)
  | staAbs (addr : Addr)
  | staAbsx (addr : Addr)
  | staAbsy (addr : Addr)
  | staIndx (zp : Byte)
  | staIndy (zp : Byte)
  -- STX, store X (R124)
  | stxZp (zp : Byte)
  | stxZpy (zp : Byte)
  | stxAbs (addr : Addr)
  -- STY, store Y (R125)
  | styZp (zp : Byte)
  | styZpx (zp : Byte)
  | styAbs (addr : Addr)
  -- TAX, transfer A to X (R126)
  | tax
  -- TAY, transfer A to Y (R127)
  | tay
  -- TXA, transfer X to A (R128)
  | txa
  -- TYA, transfer Y to A (R129)
  | tya
  -- TSX, transfer S to X (R130)
  | tsx
  -- TXS, transfer X to S (R131)
  | txs
  -- ADC, add with carry (R142)
  | adcImm (v : Byte)
  | adcZp (zp : Byte)
  | adcZpx (zp : Byte)
  | adcAbs (addr : Addr)
  | adcAbsx (addr : Addr)
  | adcAbsy (addr : Addr)
  | adcIndx (zp : Byte)
  | adcIndy (zp : Byte)
  -- SBC, subtract with carry (R143)
  | sbcImm (v : Byte)
  | sbcZp (zp : Byte)
  | sbcZpx (zp : Byte)
  | sbcAbs (addr : Addr)
  | sbcAbsx (addr : Addr)
  | sbcAbsy (addr : Addr)
  | sbcIndx (zp : Byte)
  | sbcIndy (zp : Byte)
  -- AND, bitwise and (R144)
  | andImm (v : Byte)
  | andZp (zp : Byte)
  | andZpx (zp : Byte)
  | andAbs (addr : Addr)
  | andAbsx (addr : Addr)
  | andAbsy (addr : Addr)
  | andIndx (zp : Byte)
  | andIndy (zp : Byte)
  -- ORA, bitwise or (R145)
  | oraImm (v : Byte)
  | oraZp (zp : Byte)
  | oraZpx (zp : Byte)
  | oraAbs (addr : Addr)
  | oraAbsx (addr : Addr)
  | oraAbsy (addr : Addr)
  | oraIndx (zp : Byte)
  | oraIndy (zp : Byte)
  -- EOR, bitwise exclusive or (R146)
  | eorImm (v : Byte)
  | eorZp (zp : Byte)
  | eorZpx (zp : Byte)
  | eorAbs (addr : Addr)
  | eorAbsx (addr : Addr)
  | eorAbsy (addr : Addr)
  | eorIndx (zp : Byte)
  | eorIndy (zp : Byte)
  -- CMP, compare A (R148)
  | cmpImm (v : Byte)
  | cmpZp (zp : Byte)
  | cmpZpx (zp : Byte)
  | cmpAbs (addr : Addr)
  | cmpAbsx (addr : Addr)
  | cmpAbsy (addr : Addr)
  | cmpIndx (zp : Byte)
  | cmpIndy (zp : Byte)
  -- CPX, compare X (R149)
  | cpxImm (v : Byte)
  | cpxZp (zp : Byte)
  | cpxAbs (addr : Addr)
  -- CPY, compare Y (R150)
  | cpyImm (v : Byte)
  | cpyZp (zp : Byte)
  | cpyAbs (addr : Addr)
  -- BIT, bit test (R151)
  | bitZp (zp : Byte)
  | bitAbs (addr : Addr)
  -- INC, increment memory (R152)
  | incZp (zp : Byte)
  | incZpx (zp : Byte)
  | incAbs (addr : Addr)
  | incAbsx (addr : Addr)
  -- DEC, decrement memory (R153)
  | decZp (zp : Byte)
  | decZpx (zp : Byte)
  | decAbs (addr : Addr)
  | decAbsx (addr : Addr)
  -- INX, increment X (R154)
  | inx
  -- INY, increment Y (R155)
  | iny
  -- DEX, decrement X (R156)
  | dex
  -- DEY, decrement Y (R157)
  | dey
  -- ASL, arithmetic shift left (R171)
  | aslAcc
  | aslZp (zp : Byte)
  | aslZpx (zp : Byte)
  | aslAbs (addr : Addr)
  | aslAbsx (addr : Addr)
  -- LSR, logical shift right (R172)
  | lsrAcc
  | lsrZp (zp : Byte)
  | lsrZpx (zp : Byte)
  | lsrAbs (addr : Addr)
  | lsrAbsx (addr : Addr)
  -- ROL, rotate left through carry (R173)
  | rolAcc
  | rolZp (zp : Byte)
  | rolZpx (zp : Byte)
  | rolAbs (addr : Addr)
  | rolAbsx (addr : Addr)
  -- ROR, rotate right through carry (R174)
  | rorAcc
  | rorZp (zp : Byte)
  | rorZpx (zp : Byte)
  | rorAbs (addr : Addr)
  | rorAbsx (addr : Addr)
  -- PHA, push A (R180)
  | pha
  -- PLA, pull A (R181)
  | pla
  -- PHP, push status (R182)
  | php
  -- PLP, pull status (R183)
  | plp
  -- CLC, clear C (R184)
  | clc
  -- SEC, set C (R185)
  | sec
  -- CLI, clear I (R186)
  | cli
  -- SEI, set I (R187)
  | sei
  -- CLV, clear V (R188)
  | clv
  -- CLD, clear D (R189)
  | cld
  -- SED, set D (R190)
  | sed
  -- NOP, no operation (R191)
  | nop
  -- JMP, jump (R200)
  | jmpAbs (addr : Addr)
  | jmpInd (ptr : Addr)
  -- JSR, jump to subroutine (R201)
  | jsr (addr : Addr)
  -- RTS, return from subroutine (R202)
  | rts
  -- BCC, branch if C = 0 (R204)
  | bcc (off : Byte)
  -- BCS, branch if C = 1 (R205)
  | bcs (off : Byte)
  -- BEQ, branch if Z = 1 (R206)
  | beq (off : Byte)
  -- BNE, branch if Z = 0 (R207)
  | bne (off : Byte)
  -- BMI, branch if N = 1 (R208)
  | bmi (off : Byte)
  -- BPL, branch if N = 0 (R209)
  | bpl (off : Byte)
  -- BVC, branch if V = 0 (R210)
  | bvc (off : Byte)
  -- BVS, branch if V = 1 (R211)
  | bvs (off : Byte)
  -- BRK, software interrupt (R218)
  | brk
  -- RTI, return from interrupt (R219)
  | rti
  -- a byte that selects no instruction (R88)
  | illegal (op : Byte)
deriving DecidableEq, Repr

/-- The eight addressing modes that yield an effective address in memory (40_addressing_modes.md R104 to R111), with their operand. -/
inductive MemOperand where
  | zp (zp : Byte)
  | zpx (zp : Byte)
  | zpy (zp : Byte)
  | abs (addr : Addr)
  | absx (addr : Addr)
  | absy (addr : Addr)
  | indx (zp : Byte)
  | indy (zp : Byte)
deriving DecidableEq, Repr

/-- The thirteen formats (30_encoding.md R81), each with the operand its bytes hold. -/
inductive Operand where
  | imp
  | acc
  | imm (v : Byte)
  | mem (m : MemOperand)
  | ind (ptr : Addr)
  | rel (off : Byte)
deriving DecidableEq, Repr

end Sys2Proof
end

