-- ==== Sys2Proof/Decode.lean ====
section
/-! DEFINITION. Decoding, total on any bytes, and after it the encoder, both written from the opcode map 30_encoding.md R86 and the formats
R81. Nothing is scaled or shifted; 16-bit operands are little-endian (R83). Operand fields are pulled out here and nowhere else. -/

namespace Sys2Proof

/-- `{hi, lo}`: the 16-bit value with `hi` in bits 15 to 8 (00_scope.md R6; little-endian operands, 30_encoding.md R83). -/
def concat16 (hi lo : Byte) : Addr := hi ++ lo

/-- `v[15:8]`. -/
def highByte (v : Addr) : Byte := v.extractLsb' 8 8

/-- `v[7:0]`. -/
def lowByte (v : Addr) : Byte := v.extractLsb' 0 8

/-- The decode function of 30_encoding.md R84 on an opcode byte and the two bytes after it, of which a shorter format uses fewer: the
opcode alone selects operation and format. Rows as R87 prints them, one high nibble after the other. -/
def decode3 (op b1 b2 : Byte) : Instr :=
  match op.toNat with
  | 0x00 => .brk
  | 0x01 => .oraIndx b1
  | 0x05 => .oraZp b1
  | 0x06 => .aslZp b1
  | 0x08 => .php
  | 0x09 => .oraImm b1
  | 0x0A => .aslAcc
  | 0x0D => .oraAbs (concat16 b2 b1)
  | 0x0E => .aslAbs (concat16 b2 b1)
  | 0x10 => .bpl b1
  | 0x11 => .oraIndy b1
  | 0x15 => .oraZpx b1
  | 0x16 => .aslZpx b1
  | 0x18 => .clc
  | 0x19 => .oraAbsy (concat16 b2 b1)
  | 0x1D => .oraAbsx (concat16 b2 b1)
  | 0x1E => .aslAbsx (concat16 b2 b1)
  | 0x20 => .jsr (concat16 b2 b1)
  | 0x21 => .andIndx b1
  | 0x24 => .bitZp b1
  | 0x25 => .andZp b1
  | 0x26 => .rolZp b1
  | 0x28 => .plp
  | 0x29 => .andImm b1
  | 0x2A => .rolAcc
  | 0x2C => .bitAbs (concat16 b2 b1)
  | 0x2D => .andAbs (concat16 b2 b1)
  | 0x2E => .rolAbs (concat16 b2 b1)
  | 0x30 => .bmi b1
  | 0x31 => .andIndy b1
  | 0x35 => .andZpx b1
  | 0x36 => .rolZpx b1
  | 0x38 => .sec
  | 0x39 => .andAbsy (concat16 b2 b1)
  | 0x3D => .andAbsx (concat16 b2 b1)
  | 0x3E => .rolAbsx (concat16 b2 b1)
  | 0x40 => .rti
  | 0x41 => .eorIndx b1
  | 0x45 => .eorZp b1
  | 0x46 => .lsrZp b1
  | 0x48 => .pha
  | 0x49 => .eorImm b1
  | 0x4A => .lsrAcc
  | 0x4C => .jmpAbs (concat16 b2 b1)
  | 0x4D => .eorAbs (concat16 b2 b1)
  | 0x4E => .lsrAbs (concat16 b2 b1)
  | 0x50 => .bvc b1
  | 0x51 => .eorIndy b1
  | 0x55 => .eorZpx b1
  | 0x56 => .lsrZpx b1
  | 0x58 => .cli
  | 0x59 => .eorAbsy (concat16 b2 b1)
  | 0x5D => .eorAbsx (concat16 b2 b1)
  | 0x5E => .lsrAbsx (concat16 b2 b1)
  | 0x60 => .rts
  | 0x61 => .adcIndx b1
  | 0x65 => .adcZp b1
  | 0x66 => .rorZp b1
  | 0x68 => .pla
  | 0x69 => .adcImm b1
  | 0x6A => .rorAcc
  | 0x6C => .jmpInd (concat16 b2 b1)
  | 0x6D => .adcAbs (concat16 b2 b1)
  | 0x6E => .rorAbs (concat16 b2 b1)
  | 0x70 => .bvs b1
  | 0x71 => .adcIndy b1
  | 0x75 => .adcZpx b1
  | 0x76 => .rorZpx b1
  | 0x78 => .sei
  | 0x79 => .adcAbsy (concat16 b2 b1)
  | 0x7D => .adcAbsx (concat16 b2 b1)
  | 0x7E => .rorAbsx (concat16 b2 b1)
  | 0x81 => .staIndx b1
  | 0x84 => .styZp b1
  | 0x85 => .staZp b1
  | 0x86 => .stxZp b1
  | 0x88 => .dey
  | 0x8A => .txa
  | 0x8C => .styAbs (concat16 b2 b1)
  | 0x8D => .staAbs (concat16 b2 b1)
  | 0x8E => .stxAbs (concat16 b2 b1)
  | 0x90 => .bcc b1
  | 0x91 => .staIndy b1
  | 0x94 => .styZpx b1
  | 0x95 => .staZpx b1
  | 0x96 => .stxZpy b1
  | 0x98 => .tya
  | 0x99 => .staAbsy (concat16 b2 b1)
  | 0x9A => .txs
  | 0x9D => .staAbsx (concat16 b2 b1)
  | 0xA0 => .ldyImm b1
  | 0xA1 => .ldaIndx b1
  | 0xA2 => .ldxImm b1
  | 0xA4 => .ldyZp b1
  | 0xA5 => .ldaZp b1
  | 0xA6 => .ldxZp b1
  | 0xA8 => .tay
  | 0xA9 => .ldaImm b1
  | 0xAA => .tax
  | 0xAC => .ldyAbs (concat16 b2 b1)
  | 0xAD => .ldaAbs (concat16 b2 b1)
  | 0xAE => .ldxAbs (concat16 b2 b1)
  | 0xB0 => .bcs b1
  | 0xB1 => .ldaIndy b1
  | 0xB4 => .ldyZpx b1
  | 0xB5 => .ldaZpx b1
  | 0xB6 => .ldxZpy b1
  | 0xB8 => .clv
  | 0xB9 => .ldaAbsy (concat16 b2 b1)
  | 0xBA => .tsx
  | 0xBC => .ldyAbsx (concat16 b2 b1)
  | 0xBD => .ldaAbsx (concat16 b2 b1)
  | 0xBE => .ldxAbsy (concat16 b2 b1)
  | 0xC0 => .cpyImm b1
  | 0xC1 => .cmpIndx b1
  | 0xC4 => .cpyZp b1
  | 0xC5 => .cmpZp b1
  | 0xC6 => .decZp b1
  | 0xC8 => .iny
  | 0xC9 => .cmpImm b1
  | 0xCA => .dex
  | 0xCC => .cpyAbs (concat16 b2 b1)
  | 0xCD => .cmpAbs (concat16 b2 b1)
  | 0xCE => .decAbs (concat16 b2 b1)
  | 0xD0 => .bne b1
  | 0xD1 => .cmpIndy b1
  | 0xD5 => .cmpZpx b1
  | 0xD6 => .decZpx b1
  | 0xD8 => .cld
  | 0xD9 => .cmpAbsy (concat16 b2 b1)
  | 0xDD => .cmpAbsx (concat16 b2 b1)
  | 0xDE => .decAbsx (concat16 b2 b1)
  | 0xE0 => .cpxImm b1
  | 0xE1 => .sbcIndx b1
  | 0xE4 => .cpxZp b1
  | 0xE5 => .sbcZp b1
  | 0xE6 => .incZp b1
  | 0xE8 => .inx
  | 0xE9 => .sbcImm b1
  | 0xEA => .nop
  | 0xEC => .cpxAbs (concat16 b2 b1)
  | 0xED => .sbcAbs (concat16 b2 b1)
  | 0xEE => .incAbs (concat16 b2 b1)
  | 0xF0 => .beq b1
  | 0xF1 => .sbcIndy b1
  | 0xF5 => .sbcZpx b1
  | 0xF6 => .incZpx b1
  | 0xF8 => .sed
  | 0xF9 => .sbcAbsy (concat16 b2 b1)
  | 0xFD => .sbcAbsx (concat16 b2 b1)
  | 0xFE => .incAbsx (concat16 b2 b1)
  | _ => .illegal op

/-- The addressing mode and operand of an instruction (30_encoding.md R81). -/
def Instr.operand : Instr → Operand
  | .tax | .tay | .txa | .tya | .tsx | .txs | .inx | .iny | .dex | .dey | .pha | .pla | .php | .plp | .clc | .sec | .cli | .sei
  | .clv | .cld | .sed | .nop | .rts | .brk | .rti => .imp
  | .aslAcc | .lsrAcc | .rolAcc | .rorAcc => .acc
  | .ldaImm v | .ldxImm v | .ldyImm v | .adcImm v | .sbcImm v | .andImm v | .oraImm v | .eorImm v | .cmpImm v | .cpxImm v
  | .cpyImm v => .imm v
  | .ldaZp zp | .ldxZp zp | .ldyZp zp | .staZp zp | .stxZp zp | .styZp zp | .adcZp zp | .sbcZp zp | .andZp zp | .oraZp zp
  | .eorZp zp | .cmpZp zp | .cpxZp zp | .cpyZp zp | .bitZp zp | .incZp zp | .decZp zp | .aslZp zp | .lsrZp zp | .rolZp zp
  | .rorZp zp => .mem (.zp zp)
  | .ldaZpx zp | .ldyZpx zp | .staZpx zp | .styZpx zp | .adcZpx zp | .sbcZpx zp | .andZpx zp | .oraZpx zp | .eorZpx zp | .cmpZpx zp
  | .incZpx zp | .decZpx zp | .aslZpx zp | .lsrZpx zp | .rolZpx zp | .rorZpx zp => .mem (.zpx zp)
  | .ldxZpy zp | .stxZpy zp => .mem (.zpy zp)
  | .ldaAbs addr | .ldxAbs addr | .ldyAbs addr | .staAbs addr | .stxAbs addr | .styAbs addr | .adcAbs addr | .sbcAbs addr
  | .andAbs addr | .oraAbs addr | .eorAbs addr | .cmpAbs addr | .cpxAbs addr | .cpyAbs addr | .bitAbs addr | .incAbs addr
  | .decAbs addr | .aslAbs addr | .lsrAbs addr | .rolAbs addr | .rorAbs addr | .jmpAbs addr | .jsr addr => .mem (.abs addr)
  | .ldaAbsx addr | .ldyAbsx addr | .staAbsx addr | .adcAbsx addr | .sbcAbsx addr | .andAbsx addr | .oraAbsx addr | .eorAbsx addr
  | .cmpAbsx addr | .incAbsx addr | .decAbsx addr | .aslAbsx addr | .lsrAbsx addr | .rolAbsx addr | .rorAbsx addr => .mem (.absx addr)
  | .ldaAbsy addr | .ldxAbsy addr | .staAbsy addr | .adcAbsy addr | .sbcAbsy addr | .andAbsy addr | .oraAbsy addr | .eorAbsy addr
  | .cmpAbsy addr => .mem (.absy addr)
  | .ldaIndx zp | .staIndx zp | .adcIndx zp | .sbcIndx zp | .andIndx zp | .oraIndx zp | .eorIndx zp | .cmpIndx zp => .mem (.indx zp)
  | .ldaIndy zp | .staIndy zp | .adcIndy zp | .sbcIndy zp | .andIndy zp | .oraIndy zp | .eorIndy zp | .cmpIndy zp => .mem (.indy zp)
  | .jmpInd ptr => .ind ptr
  | .bcc off | .bcs off | .beq off | .bne off | .bmi off | .bpl off | .bvc off | .bvs off => .rel off
  | .illegal _ => .imp

/-- The opcode byte of an instruction (30_encoding.md R86). -/
def Instr.opcode : Instr → Byte
  | .ldaImm _ => 0xA9 | .ldaZp _ => 0xA5 | .ldaZpx _ => 0xB5 | .ldaAbs _ => 0xAD | .ldaAbsx _ => 0xBD | .ldaAbsy _ => 0xB9 | .ldaIndx _ => 0xA1 | .ldaIndy _ => 0xB1
  | .ldxImm _ => 0xA2 | .ldxZp _ => 0xA6 | .ldxZpy _ => 0xB6 | .ldxAbs _ => 0xAE | .ldxAbsy _ => 0xBE
  | .ldyImm _ => 0xA0 | .ldyZp _ => 0xA4 | .ldyZpx _ => 0xB4 | .ldyAbs _ => 0xAC | .ldyAbsx _ => 0xBC
  | .staZp _ => 0x85 | .staZpx _ => 0x95 | .staAbs _ => 0x8D | .staAbsx _ => 0x9D | .staAbsy _ => 0x99 | .staIndx _ => 0x81 | .staIndy _ => 0x91
  | .stxZp _ => 0x86 | .stxZpy _ => 0x96 | .stxAbs _ => 0x8E
  | .styZp _ => 0x84 | .styZpx _ => 0x94 | .styAbs _ => 0x8C
  | .tax => 0xAA
  | .tay => 0xA8
  | .txa => 0x8A
  | .tya => 0x98
  | .tsx => 0xBA
  | .txs => 0x9A
  | .adcImm _ => 0x69 | .adcZp _ => 0x65 | .adcZpx _ => 0x75 | .adcAbs _ => 0x6D | .adcAbsx _ => 0x7D | .adcAbsy _ => 0x79 | .adcIndx _ => 0x61 | .adcIndy _ => 0x71
  | .sbcImm _ => 0xE9 | .sbcZp _ => 0xE5 | .sbcZpx _ => 0xF5 | .sbcAbs _ => 0xED | .sbcAbsx _ => 0xFD | .sbcAbsy _ => 0xF9 | .sbcIndx _ => 0xE1 | .sbcIndy _ => 0xF1
  | .andImm _ => 0x29 | .andZp _ => 0x25 | .andZpx _ => 0x35 | .andAbs _ => 0x2D | .andAbsx _ => 0x3D | .andAbsy _ => 0x39 | .andIndx _ => 0x21 | .andIndy _ => 0x31
  | .oraImm _ => 0x09 | .oraZp _ => 0x05 | .oraZpx _ => 0x15 | .oraAbs _ => 0x0D | .oraAbsx _ => 0x1D | .oraAbsy _ => 0x19 | .oraIndx _ => 0x01 | .oraIndy _ => 0x11
  | .eorImm _ => 0x49 | .eorZp _ => 0x45 | .eorZpx _ => 0x55 | .eorAbs _ => 0x4D | .eorAbsx _ => 0x5D | .eorAbsy _ => 0x59 | .eorIndx _ => 0x41 | .eorIndy _ => 0x51
  | .cmpImm _ => 0xC9 | .cmpZp _ => 0xC5 | .cmpZpx _ => 0xD5 | .cmpAbs _ => 0xCD | .cmpAbsx _ => 0xDD | .cmpAbsy _ => 0xD9 | .cmpIndx _ => 0xC1 | .cmpIndy _ => 0xD1
  | .cpxImm _ => 0xE0 | .cpxZp _ => 0xE4 | .cpxAbs _ => 0xEC
  | .cpyImm _ => 0xC0 | .cpyZp _ => 0xC4 | .cpyAbs _ => 0xCC
  | .bitZp _ => 0x24 | .bitAbs _ => 0x2C
  | .incZp _ => 0xE6 | .incZpx _ => 0xF6 | .incAbs _ => 0xEE | .incAbsx _ => 0xFE
  | .decZp _ => 0xC6 | .decZpx _ => 0xD6 | .decAbs _ => 0xCE | .decAbsx _ => 0xDE
  | .inx => 0xE8
  | .iny => 0xC8
  | .dex => 0xCA
  | .dey => 0x88
  | .aslAcc => 0x0A | .aslZp _ => 0x06 | .aslZpx _ => 0x16 | .aslAbs _ => 0x0E | .aslAbsx _ => 0x1E
  | .lsrAcc => 0x4A | .lsrZp _ => 0x46 | .lsrZpx _ => 0x56 | .lsrAbs _ => 0x4E | .lsrAbsx _ => 0x5E
  | .rolAcc => 0x2A | .rolZp _ => 0x26 | .rolZpx _ => 0x36 | .rolAbs _ => 0x2E | .rolAbsx _ => 0x3E
  | .rorAcc => 0x6A | .rorZp _ => 0x66 | .rorZpx _ => 0x76 | .rorAbs _ => 0x6E | .rorAbsx _ => 0x7E
  | .pha => 0x48
  | .pla => 0x68
  | .php => 0x08
  | .plp => 0x28
  | .clc => 0x18
  | .sec => 0x38
  | .cli => 0x58
  | .sei => 0x78
  | .clv => 0xB8
  | .cld => 0xD8
  | .sed => 0xF8
  | .nop => 0xEA
  | .jmpAbs _ => 0x4C | .jmpInd _ => 0x6C
  | .jsr _ => 0x20
  | .rts => 0x60
  | .bcc _ => 0x90
  | .bcs _ => 0xB0
  | .beq _ => 0xF0
  | .bne _ => 0xD0
  | .bmi _ => 0x30
  | .bpl _ => 0x10
  | .bvc _ => 0x50
  | .bvs _ => 0x70
  | .brk => 0x00
  | .rti => 0x40
  | .illegal op => op

/-- The operand bytes, lowest address first (30_encoding.md R81, R83). -/
def Operand.bytes : Operand → List Byte
  | .imp | .acc => []
  | .imm v => [v]
  | .mem (.zp z) | .mem (.zpx z) | .mem (.zpy z) | .mem (.indx z) | .mem (.indy z) => [z]
  | .mem (.abs a) | .mem (.absx a) | .mem (.absy a) => [lowByte a, highByte a]
  | .ind p => [lowByte p, highByte p]
  | .rel off => [off]

/-- The encoder: the bytes of an instruction, byte 0 at the lowest address (30_encoding.md R81, R86). -/
def encode (i : Instr) : List Byte := i.opcode :: i.operand.bytes

/-- The length in bytes: the opcode and the operand bytes (30_encoding.md R80). -/
def Instr.length (i : Instr) : Nat := (encode i).length

/-- Why a byte sequence is no instruction. An illegal opcode byte is not among the reasons: it decodes to `Instr.illegal`.
The model's own, a DESIGN CHOICE that no step meets (log entry 22). -/
inductive DecodeError where
  /-- There is no byte. -/
  | noBytes
  /-- The opcode's format has more operand bytes than follow. -/
  | truncated (op : Byte)
deriving DecidableEq, Repr

/-- The instruction at the head of a byte sequence, and the bytes after it (30_encoding.md R80, R84). -/
def decode : List Byte → Except DecodeError (Instr × List Byte)
  | [] => .error .noBytes
  | op :: rest =>
    let i := decode3 op (rest.getD 0 0) (rest.getD 1 0)
    if rest.length < i.length - 1 then .error (.truncated op) else .ok (i, rest.drop (i.length - 1))

/-- Decoding under a narrowed `IMPLEMENTED` set: an opcode outside it is illegal (30_encoding.md R89, 00_scope.md R4). -/
def decodeWith (implemented : Byte → Bool) (op b1 b2 : Byte) : Instr :=
  if implemented op then decode3 op b1 b2 else .illegal op

/-- Byte `k` of an instruction given as one number, bit 0 the least significant bit of its first byte. -/
def tableByte (w k : Nat) : Byte := BitVec.ofNat 8 (w / 256 ^ k)

/-- The decoder on a row of the opcode table: the `nbits` bits of `w`, every bit above them 0, as three bytes in memory order. -/
def decodeTableWord (nbits w : Nat) : Option Instr :=
  let w := w % 2 ^ nbits
  match decode [tableByte w 0, tableByte w 1, tableByte w 2] with
  | .ok (i, _) => some i
  | .error _ => none

end Sys2Proof
end

