-- ==== Sys2Proof/Config.lean ====
section
/-! DEFINITION. What is fixed for one machine (00_scope.md R4) and the values the spec leaves unspecified. The parameters `HEADER_LEN` and
`PRG_LEN` do not vary (92_eei_decisions.md, parameter table) and stand in Machine/HostOps.lean; the defaults the spec decides stand in
Machine/Params.lean. -/

namespace Sys2Proof

/-- The named parameters of 00_scope.md R4 (92_eei_decisions.md, parameter table). -/
structure Config where
  /-- `IMPLEMENTED`: an opcode byte outside this set is illegal, whether or not 30_encoding.md R86 defines it (R89). -/
  implemented : Byte → Bool
  /-- `RESET_ZEROES_MEMORY` (70_reset_and_hazards.md R260). -/
  resetZeroesMemory : Bool
  /-- `BRK_RETURN_OFFSET`, 1 or 2 (45_control_flow.md R218). -/
  brkReturnOffset : Addr
  /-- `CYCLE_TABLE`: the base cost of each opcode byte (70_reset_and_hazards.md R282). -/
  cycleTable : Byte → Nat

/-- `A`, `X`, `Y`, `S` before the first reset, by number 0 to 3: no specified value (10_state.md R39; log entry 6). -/
opaque Config.powerOnByte : Nat → Byte

/-- `PC` before the first reset: no specified value (10_state.md R39; log entry 6). -/
opaque Config.powerOnPc : Addr

/-- `N V B D I Z C` before the first reset, by number 0 to 6: no specified value (10_state.md R39; log entry 6). -/
opaque Config.powerOnFlag : Nat → Bool

end Sys2Proof
end

