-- ==== Sys2Proof/Machine/State.lean ====
section
/-! DEFINITION. The state of the CORE (10_state.md): the tuple its opening paragraph lists, and `resetDone`, the model's own bit (log entry 5). -/

namespace Sys2Proof.Machine

/-- The seven stored status flags, each one bit of its own (10_state.md R14); the packed byte is only a view (Flags.lean). -/
structure Flags where
  /-- negative (R21) -/
  n : Bool
  /-- overflow (R21) -/
  v : Bool
  /-- break, a stored bit (R19) -/
  b : Bool
  /-- decimal, stored and ignored (R18) -/
  d : Bool
  /-- interrupt-disable, masks nothing (R17) -/
  i : Bool
  /-- zero (R16) -/
  z : Bool
  /-- carry (R15) -/
  c : Bool
deriving DecidableEq, Repr

/-- The PPU register records and their shared write latch (10_state.md R32 to R36). -/
structure Ppu where
  /-- PPUCTRL (R32) -/
  ctrl : Byte
  /-- PPUMASK (R33) -/
  mask : Byte
  /-- PPUADDR, bits 15 and 14 always 0 (R34) -/
  addr : Addr
  /-- PPUSCROLL_X (R35) -/
  scrollX : Byte
  /-- PPUSCROLL_Y (R35) -/
  scrollY : Byte
  /-- the write latch `w`: false, the next write is the first of a pair; true, the second (R36) -/
  w : Bool
deriving DecidableEq, Repr

/-- `fault_info`: the offending byte, the address it was fetched from, the elapsed cycles (10_state.md R37, 60_exceptions.md R231). -/
structure FaultInfo where
  opcode : Byte
  pc : Addr
  cycles : Nat
deriving DecidableEq, Repr

/-- `MEM` (10_state.md R31): pairs of an index and its byte, in the one canonical form of Machine/Memory.lean. An index without a pair holds
0x00, the contents the array is constructed with. -/
abbrev Memory := List Host.Cell

/-- The state of the CORE (10_state.md, opening tuple). Between steps `pc` is the address of the next opcode byte (R12). -/
structure State where
  /-- accumulator `A` (R10) -/
  a : Byte
  /-- index register `X` (R10) -/
  x : Byte
  /-- index register `Y` (R10) -/
  y : Byte
  /-- stack pointer `S`, the offset into page 1 (R11) -/
  sp : Byte
  /-- program counter `PC` (R12) -/
  pc : Addr
  /-- the seven flags (R14) -/
  flags : Flags
  /-- `MEM` (R31) -/
  mem : Memory
  /-- the PPU records and `w` (R32 to R36) -/
  ppu : Ppu
  /-- `nmi_pending` (R37) -/
  nmiPending : Bool
  /-- `halted` (R37) -/
  halted : Bool
  /-- `fault_info`, or none (R37) -/
  faultInfo : Option FaultInfo
  /-- elapsed cycles (R38) -/
  cycles : Nat
  /-- remaining-cycle budget, signed (R38) -/
  budget : Int
  /-- the model's own bit: a `reset` has happened (70_reset_and_hazards.md R264; log entry 5) -/
  resetDone : Bool
deriving DecidableEq, Repr

/-- Why a step stops the machine. -/
inductive Fault where
  /-- `IllegalOpcode`, the CORE's only fault (60_exceptions.md R231, R233). Raised by `step` when the byte fetched as opcode is illegal, and
  again by every step while `halted` is set (R234); `info` is `fault_info`, and `left` the state the machine is left in, from which `reset` goes on
  (log entry 3). Safe: the spec's step returns the same fault to the host. -/
  | illegalOpcode (info : Option FaultInfo) (left : State)
deriving DecidableEq, Repr

/-- Why the model has no answer. -/
inductive Refusal where
  /-- An instruction without a meaning, by its mnemonic: raised by a refused arm of `exec`; there is none. Safe. -/
  | notModelled (mnemonic : String)
  /-- A step before the first `reset`, raised by `step`, `runOneInstruction` and `tick`: 70_reset_and_hazards.md R264 says that a model refuses it. Safe. -/
  | notReset
  /-- `loadProgram` with an image of `length` bytes, fewer than header and program need, raised by that host operation: 20_memory.md R72 says
  that a model refuses such a call. Safe. -/
  | shortImage (length : Nat)
deriving DecidableEq, Repr

/-- All seven flags 0. -/
def Flags.clear : Flags := ⟨false, false, false, false, false, false, false⟩

/-- The PPU records as constructed (10_state.md R32 to R36, 70_reset_and_hazards.md R262). -/
def Ppu.powerOn : Ppu := ⟨0, 0, 0, 0, 0, false⟩

/-- The construction state, before any `reset` (70_reset_and_hazards.md R262): the CPU registers and flags are unspecified (log entry 6).
`fault_info` none is a DESIGN CHOICE (log entry 21): R262, 10_state.md R39 and D29 name the power-on values of the other hidden fields, and not this one. -/
def State.powerOn : State where
  a := Config.powerOnByte 0
  x := Config.powerOnByte 1
  y := Config.powerOnByte 2
  sp := Config.powerOnByte 3
  pc := Config.powerOnPc
  flags := ⟨Config.powerOnFlag 0, Config.powerOnFlag 1, Config.powerOnFlag 2, Config.powerOnFlag 3, Config.powerOnFlag 4,
    Config.powerOnFlag 5, Config.powerOnFlag 6⟩
  mem := []
  ppu := .powerOn
  nmiPending := false
  halted := false
  faultInfo := none
  cycles := 0
  budget := 0
  resetDone := false

/-- The machine right after `reset`, with no program loaded (10_state.md R30): what the host operation `reset` leaves of `State.powerOn`. `PC` is the reset
vector of the zero-filled memory (log entry 7). -/
def State.reset : State where
  a := 0x00
  x := 0x00
  y := 0x00
  sp := 0xFF
  pc := 0x0000
  flags := .clear
  mem := []
  ppu := .powerOn
  nmiPending := false
  halted := false
  faultInfo := none
  cycles := 0
  budget := 0
  resetDone := true

end Sys2Proof.Machine
end

