-- ==== Sys2Proof/Machine/Flags.lean ====
section
/-! DEFINITION. Every flag computation of the spec: the status byte (10_state.md R22, R23), `SetZN` (R20), the ALU helpers "one per operation family,
each returns the result and mutates flags" (42_arithmetic_logic.md R140, R147, R151, 43_shifts_rotates.md R171 to R174) and the branch conditions. -/

namespace Sys2Proof.Machine

/-- The view `P(brk) = {N, V, 1, brk, D, I, Z, C}` (10_state.md R22). -/
def Flags.statusByte (f : Flags) (brk : Bool) : Byte :=
  BitVec.ofBool f.n ++ BitVec.ofBool f.v ++ 1#1 ++ BitVec.ofBool brk ++ BitVec.ofBool f.d ++ BitVec.ofBool f.i ++ BitVec.ofBool f.z
    ++ BitVec.ofBool f.c

/-- `SetP(v)`: all seven flags from a pulled byte, bit 5 ignored (10_state.md R23). -/
def Flags.ofStatusByte (v : Byte) : Flags where
  n := v.getLsbD 7
  v := v.getLsbD 6
  b := v.getLsbD 4
  d := v.getLsbD 3
  i := v.getLsbD 2
  z := v.getLsbD 1
  c := v.getLsbD 0

/-- `SetZN(v)`: `Z <- (v = 0); N <- v[7]` (10_state.md R20). -/
def Flags.setZN (v : Byte) (f : Flags) : Flags := { f with z := v == 0, n := v.getLsbD 7 }

/-- `b2n(C)` as a byte (00_scope.md R6). -/
def Flags.carryByte (f : Flags) : Byte := if f.c then 1 else 0

/-- `AddWithCarry(a, m, b2n(C))`: the result, and the flags with C and V written; `D` is not read (42_arithmetic_logic.md R140, R141). -/
def addWithCarry (a m : Byte) (f : Flags) : Byte × Flags :=
  let sum := a.toNat + m.toNat + f.carryByte.toNat
  let r : Byte := BitVec.ofNat 8 sum
  (r, { f with c := decide (0xFF < sum), v := (~~~(a ^^^ m) &&& (a ^^^ r)).getLsbD 7 })

/-- `Compare(r, m)`: C, Z and N, nothing else (42_arithmetic_logic.md R147). -/
def Flags.compare (r m : Byte) (f : Flags) : Flags :=
  { f with c := decide (m ≤ r), z := r == m, n := (r - m).getLsbD 7 }

/-- BIT: Z from `A & M`, N and V from bits 7 and 6 of `M` (42_arithmetic_logic.md R151). -/
def Flags.bitTest (a m : Byte) (f : Flags) : Flags :=
  { f with z := a &&& m == 0, n := m.getLsbD 7, v := m.getLsbD 6 }

/-- The result `r` of a shift with the bit `out` shifted out: C, then Z and N (43_shifts_rotates.md R171 to R174). -/
def Flags.shifted (r : Byte) (out : Bool) (f : Flags) : Byte × Flags := (r, Flags.setZN r { f with c := out })

/-- ASL (43_shifts_rotates.md R171). -/
def shiftLeft (m : Byte) (f : Flags) : Byte × Flags := f.shifted (m <<< 1) (m.getLsbD 7)

/-- LSR (43_shifts_rotates.md R172). -/
def shiftRight (m : Byte) (f : Flags) : Byte × Flags := f.shifted (m >>> 1) (m.getLsbD 0)

/-- ROL: the old carry enters bit 0 (43_shifts_rotates.md R173). -/
def rotateLeft (m : Byte) (f : Flags) : Byte × Flags := f.shifted (m <<< 1 ||| f.carryByte) (m.getLsbD 7)

/-- ROR: the old carry enters bit 7 (43_shifts_rotates.md R174). -/
def rotateRight (m : Byte) (f : Flags) : Byte × Flags := f.shifted (m >>> 1 ||| f.carryByte <<< 7) (m.getLsbD 0)

/-- The result of INC, INX, INY (42_arithmetic_logic.md R152, R154, R155): only Z and N. -/
def increment (m : Byte) (f : Flags) : Byte × Flags := (m + 1, f.setZN (m + 1))

/-- The result of DEC, DEX, DEY (42_arithmetic_logic.md R153, R156, R157): only Z and N. -/
def decrement (m : Byte) (f : Flags) : Byte × Flags := (m - 1, f.setZN (m - 1))

/-- The conditions of the eight branches (45_control_flow.md R204 to R211). -/
inductive Cond where
  | carryClear | carrySet | equal | notEqual | minus | plus | overflowClear | overflowSet
deriving DecidableEq, Repr

/-- Whether a branch condition holds (45_control_flow.md R204 to R211). -/
def Flags.holds (f : Flags) : Cond → Bool
  | .carryClear => !f.c
  | .carrySet => f.c
  | .equal => f.z
  | .notEqual => !f.z
  | .minus => f.n
  | .plus => !f.n
  | .overflowClear => !f.v
  | .overflowSet => f.v

end Sys2Proof.Machine
end

