-- ==== Sys2Proof/Machine/Memory.lean ====
section
/-! DEFINITION. The byte array `MEM` (10_state.md R31) as data in one canonical form: indexes strictly rising, below 65536, and no pair that holds
0x00, which is what an index without a pair holds. -/

namespace Sys2Proof.Machine

/-- What an index without a pair holds: the array is "constructed zero-filled" (10_state.md R31). -/
def Memory.unlisted : Byte := 0x00

/-- The byte at index `k`. -/
def Memory.read : Memory → Nat → Byte
  | [], _ => Memory.unlisted
  | (k, v) :: m, a => if k = a then v else Memory.read m a

/-- Set the byte at index `a` to `v`, keeping the order. -/
def Memory.put (a : Nat) (v : Byte) : Memory → Memory
  | [] => [(a, v)]
  | (k, u) :: m =>
    if a < k then (a, v) :: (k, u) :: m
    else if a = k then (a, v) :: m
    else (k, u) :: Memory.put a v m

/-- Drop every pair of index `a`. -/
def Memory.erase (a : Nat) : Memory → Memory
  | [] => []
  | (k, u) :: m => if k = a then Memory.erase a m else (k, u) :: Memory.erase a m

/-- `MEM[a] <- v`. -/
def Memory.write (m : Memory) (a : Nat) (v : Byte) : Memory :=
  if v = Memory.unlisted then Memory.erase a m else Memory.put a v m

/-- The bytes of a list, stored from index `base` upward. -/
def Memory.writeBytes (m : Memory) (base : Nat) : List Byte → Memory
  | [] => m
  | v :: vs => Memory.writeBytes (Memory.write m base v) (base + 1) vs

/-- The canonical form. -/
abbrev Memory.wf (m : Memory) : Prop :=
  m.Pairwise (fun p q => p.1 < q.1) ∧ ∀ p ∈ m, p.1 < 65536 ∧ p.2 ≠ Memory.unlisted

end Sys2Proof.Machine
end

