-- ==== Sys2Proof/Machine/Ppu.lean ====
section
/-! DEFINITION. The PPU register models (10_state.md R32 to R36) and what a bus write to their window does to them (20_memory.md R52 to R59). -/

namespace Sys2Proof.Machine

/-- PPUCTRL bit 0 (10_state.md R32). -/
def Ppu.nametableLo (p : Ppu) : Bool := p.ctrl.getLsbD 0
/-- PPUCTRL bit 1 (R32). -/
def Ppu.nametableHi (p : Ppu) : Bool := p.ctrl.getLsbD 1
/-- PPUCTRL bit 2 (R32). -/
def Ppu.vramIncrementBit (p : Ppu) : Bool := p.ctrl.getLsbD 2
/-- PPUCTRL bit 3 (R32). -/
def Ppu.spritePattern (p : Ppu) : Bool := p.ctrl.getLsbD 3
/-- PPUCTRL bit 4 (R32). -/
def Ppu.backgroundPattern (p : Ppu) : Bool := p.ctrl.getLsbD 4
/-- PPUCTRL bit 5 (R32). -/
def Ppu.spriteSize (p : Ppu) : Bool := p.ctrl.getLsbD 5
/-- PPUCTRL bit 6 (R32). -/
def Ppu.masterSlave (p : Ppu) : Bool := p.ctrl.getLsbD 6
/-- PPUCTRL bit 7, which no rule of the CORE reads (R32; 60_exceptions.md R235). -/
def Ppu.nmiEnable (p : Ppu) : Bool := p.ctrl.getLsbD 7

/-- `NametableBase()` (10_state.md R32). -/
def Ppu.nametableBase (p : Ppu) : Nat := 0x2000 + 0x0400 * (p.ctrl.toNat % 4)
/-- `SpriteHeight()` (R32). -/
def Ppu.spriteHeight (p : Ppu) : Nat := if p.spriteSize then 16 else 8
/-- `VramIncrement()` (R32). -/
def Ppu.vramIncrement (p : Ppu) : Addr := if p.vramIncrementBit then 32 else 1

/-- PPUMASK bit 0 (10_state.md R33). -/
def Ppu.greyscale (p : Ppu) : Bool := p.mask.getLsbD 0
/-- PPUMASK bit 1 (R33). -/
def Ppu.showBackgroundLeft (p : Ppu) : Bool := p.mask.getLsbD 1
/-- PPUMASK bit 2 (R33). -/
def Ppu.showSpritesLeft (p : Ppu) : Bool := p.mask.getLsbD 2
/-- PPUMASK bit 3 (R33). -/
def Ppu.showBackground (p : Ppu) : Bool := p.mask.getLsbD 3
/-- PPUMASK bit 4 (R33). -/
def Ppu.showSprites (p : Ppu) : Bool := p.mask.getLsbD 4
/-- PPUMASK bit 5 (R33). -/
def Ppu.emphasizeRed (p : Ppu) : Bool := p.mask.getLsbD 5
/-- PPUMASK bit 6 (R33). -/
def Ppu.emphasizeGreen (p : Ppu) : Bool := p.mask.getLsbD 6
/-- PPUMASK bit 7 (R33). -/
def Ppu.emphasizeBlue (p : Ppu) : Bool := p.mask.getLsbD 7

/-- The mask that keeps PPUADDR in 0x0000 to 0x3FFF (10_state.md R34). -/
def Ppu.addrMask : Addr := 0x3FFF

/-- A write to canonical 0x2006: high half first, then low half, under the shared latch (20_memory.md R55). -/
def Ppu.writeAddr (v : Byte) (p : Ppu) : Ppu :=
  if p.w then { p with addr := concat16 (highByte p.addr) v &&& Ppu.addrMask, w := false }
  else { p with addr := concat16 v (lowByte p.addr) &&& Ppu.addrMask, w := true }

/-- A write to canonical 0x2005: X first, then Y, under the same latch (20_memory.md R56). -/
def Ppu.writeScroll (v : Byte) (p : Ppu) : Ppu :=
  if p.w then { p with scrollY := v, w := false } else { p with scrollX := v, w := true }

/-- The increment of PPUADDR on a data-port access (20_memory.md R57, 70_reset_and_hazards.md R276). -/
def Ppu.increment (p : Ppu) : Ppu := { p with addr := (p.addr + p.vramIncrement) &&& Ppu.addrMask }

/-- The side effect of a bus write of `v` to canonical address `c` (20_memory.md R47, R52 to R57, R59): none outside the five addresses. -/
def Ppu.busWrite (c : Addr) (v : Byte) (p : Ppu) : Ppu :=
  if c = 0x2000 then { p with ctrl := v }
  else if c = 0x2001 then { p with mask := v }
  else if c = 0x2005 then p.writeScroll v
  else if c = 0x2006 then p.writeAddr v
  else if c = 0x2007 then p.increment
  else p

end Sys2Proof.Machine
end

