-- ==== Sys2Proof/Machine/Ops.lean ====
section
/-! DEFINITION. The named operations over registers, memory and stack: register writes, mirroring and the bus (20_memory.md), the stack (10_state.md R25 to R29),
taking a trap and returning from one (45_control_flow.md R218, R219, 60_exceptions.md R240), the illegal-opcode fault (R231). -/

namespace Sys2Proof.Machine

/-- How a meaning answers: every instruction of the CORE completes. -/
abbrev Answer := Host.Outcome State Fault Refusal

/-! Register writes (10_state.md R10 to R14). -/

/-- `A <- v`. -/
def State.setA (v : Byte) (s : State) : State := { s with a := v }
/-- `X <- v`. -/
def State.setX (v : Byte) (s : State) : State := { s with x := v }
/-- `Y <- v`. -/
def State.setY (v : Byte) (s : State) : State := { s with y := v }
/-- `S <- v`. -/
def State.setSp (v : Byte) (s : State) : State := { s with sp := v }
/-- `PC <- target`. -/
def State.setPc (target : Addr) (s : State) : State := { s with pc := target }
/-- All flags at once. -/
def State.setFlags (f : Flags) (s : State) : State := { s with flags := f }
/-- `SetZN(v)` (R20). -/
def State.setZN (v : Byte) (s : State) : State := s.setFlags (s.flags.setZN v)

/-! The bus (20_memory.md). -/

/-- `Mirror(a)`: the canonical address (R42). -/
def mirror (a : Addr) : Addr :=
  if a.toNat ≤ 0x1FFF then a &&& 0x07FF
  else if a.toNat ≤ 0x3FFF then 0x2000 ||| (a &&& 0x0007)
  else a

/-- `MemRead(a, 1)`: no side effect at any address (R46). -/
def State.busRead (s : State) (a : Addr) : Byte := Memory.read s.mem (mirror a).toNat

/-- `MemWrite(a, 1, v)`: the byte is stored at the canonical address, then the side effect of the PPU window (R47). -/
def State.busWrite (a : Addr) (v : Byte) (s : State) : State :=
  { s with mem := Memory.write s.mem (mirror a).toNat v, ppu := s.ppu.busWrite (mirror a) v }

/-- `MemRead(a, 2)`: little-endian, the successor of 0xFFFF is 0x0000 (R48). -/
def State.busRead16 (s : State) (a : Addr) : Addr := concat16 (s.busRead (a + 1)) (s.busRead a)

/-- `zext_16` (00_scope.md R7). -/
def zext16 (v : Byte) : Addr := v.setWidth 16

/-- `sext_16` (00_scope.md R7). -/
def sext16 (v : Byte) : Addr := v.signExtend 16

/-- `MemReadZP16(z)`: the second byte wraps inside the zero page (R49). -/
def State.readZeroPage16 (s : State) (z : Byte) : Addr := concat16 (s.busRead (zext16 (z + 1))) (s.busRead (zext16 z))

/-- `MemReadPageWrap16(a)`: the second byte comes from the same page (R50). -/
def State.readPageWrap16 (s : State) (a : Addr) : Addr :=
  concat16 (s.busRead (concat16 (highByte a) (lowByte a + 1))) (s.busRead a)

/-- `MemWrite(a, 2, v)`: low byte first. The bus exposes it and no instruction uses it (R51). -/
def State.busWrite16 (a : Addr) (v : Addr) (s : State) : State := (s.busWrite a (lowByte v)).busWrite (a + 1) (highByte v)

/-- A raw read of `MEM[i]` by the host: not mirrored (R74). -/
def State.rawRead (s : State) (a : Addr) : Byte := Memory.read s.mem a.toNat

/-! The stack (10_state.md R25 to R29). -/

/-- The stack address `0x0100 + S` (R11). -/
def stackAddr (sp : Byte) : Addr := 0x0100 + zext16 sp

/-- `Push8(v)`: write, then decrement with wrap (R26). -/
def State.push8 (v : Byte) (s : State) : State := (s.busWrite (stackAddr s.sp) v).setSp (s.sp - 1)

/-- `Pull8()`: increment with wrap, then read (R27). -/
def State.pull8 (s : State) : Byte × State := (s.busRead (stackAddr (s.sp + 1)), s.setSp (s.sp + 1))

/-- `Push16(v)`: high byte first (R28). -/
def State.push16 (v : Addr) (s : State) : State := (s.push8 (highByte v)).push8 (lowByte v)

/-- `Pull16()`: low byte first (R29). -/
def State.pull16 (s : State) : Addr × State :=
  let lo := s.pull8
  let hi := lo.2.pull8
  (concat16 hi.1 lo.1, hi.2)

/-! Traps (60_exceptions.md R241) and the return. -/

/-- The vectors (20_memory.md R65). -/
def nmiVector : Addr := 0xFFFA
/-- (20_memory.md R65) -/
def resetVector : Addr := 0xFFFC
/-- (20_memory.md R65) -/
def brkVector : Addr := 0xFFFE

/-- Taking a trap: the return address and the status byte with break bit `brk` are pushed, then `I <- 1`, then `PC` is loaded from the vector
(45_control_flow.md R218, 60_exceptions.md R240). -/
def State.enterTrap (ret : Addr) (brk : Bool) (vector : Addr) (s : State) : State :=
  let t := (s.push16 ret).push8 (s.flags.statusByte brk)
  (t.setFlags { t.flags with i := true }).setPc (t.busRead16 vector)

/-- The return from a trap: the flags, then `PC` without adjustment (45_control_flow.md R219, 60_exceptions.md R242). -/
def State.returnFromTrap (s : State) : State :=
  let p := s.pull8
  let r := (p.2.setFlags (Flags.ofStatusByte p.1)).pull16
  r.2.setPc r.1

/-- The NMI entry: the pending flag is consumed, then the trap with break bit 0 (60_exceptions.md R238, R240). -/
def State.enterNmi (s : State) : State := State.enterTrap s.pc false nmiVector { s with nmiPending := false }

/-- BRK with the offset `BRK_RETURN_OFFSET`, run after the fetch of its one byte, so that its own address is `PC - 1` (45_control_flow.md R218). -/
def State.breakWith (offset : Addr) (s : State) : State :=
  State.enterTrap (s.pc - 1 + offset) true brkVector (s.setFlags { s.flags with b := true })

/-- `raise IllegalOpcode(op, pc0, cycles)`, run after the fetch of its one byte, so that `pc0` is `PC - 1`: the record, `halted`, and `PC` back at
the byte; nothing else (60_exceptions.md R231). -/
def State.raiseIllegal (op : Byte) (s : State) : State :=
  { s with halted := true, faultInfo := some ⟨op, s.pc - 1, s.cycles⟩, pc := s.pc - 1 }

/-! The host's one-line changes of state. -/

/-- `triggerNMI()` (60_exceptions.md R237). -/
def State.triggerNmi (s : State) : State := { s with nmiPending := true }

/-- `resetMemory()` (20_memory.md R73). -/
def State.resetMemory (s : State) : State := { s with mem := [] }

/-- `ppuStatusRead()` (70_reset_and_hazards.md R276). -/
def State.ppuStatusRead (s : State) : State := { s with ppu := { s.ppu with w := false } }

/-- `ppuDataAccess()` (70_reset_and_hazards.md R276). -/
def State.ppuDataAccess (s : State) : State := { s with ppu := s.ppu.increment }

/-- `reset()` with the parameter `RESET_ZEROES_MEMORY` (70_reset_and_hazards.md R260): memory first, then registers, flags, stack pointer, the vector, the
counters and the hidden state; the PPU records and `w` stay (10_state.md R30). -/
def State.resetWith (zeroesMemory : Bool) (s : State) : State :=
  let t := if zeroesMemory then s.resetMemory else s
  { t with
    a := 0x00, x := 0x00, y := 0x00, flags := .clear, sp := 0xFF, pc := t.busRead16 resetVector
    budget := 0, cycles := 0, nmiPending := false, halted := false, faultInfo := none, resetDone := true }

end Sys2Proof.Machine
end

