-- ==== Sys2Proof/Machine/Operands.lean ====
section
/-! DEFINITION. The addressing-mode resolver (40_addressing_modes.md): effective addresses, the page-cross flag, and the shapes in which an instruction
uses its operand (R100). A resolver runs after all bytes of the instruction are fetched and changes no register or flag. -/

namespace Sys2Proof.Machine

/-- The base a page crossing is measured from: the operand of absolute,X and absolute,Y, the pointer of (zp),Y (R108, R109, R111). -/
def MemOperand.base (m : MemOperand) (s : State) : Addr :=
  match m with
  | .zp z => zext16 z
  | .zpx z => zext16 (z + s.x)
  | .zpy z => zext16 (z + s.y)
  | .abs a => a
  | .absx a => a
  | .absy a => a
  | .indx z => s.readZeroPage16 (z + s.x)
  | .indy z => s.readZeroPage16 z

/-- The effective address `ea` (R104 to R111). -/
def MemOperand.ea (m : MemOperand) (s : State) : Addr :=
  match m with
  | .zp _ | .zpx _ | .zpy _ | .abs _ | .indx _ => MemOperand.base m s
  | .absx _ => MemOperand.base m s + zext16 s.x
  | .absy _ | .indy _ => MemOperand.base m s + zext16 s.y

/-- `a[15:8] != b[15:8]`. -/
def pagesDiffer (a b : Addr) : Bool := highByte a != highByte b

/-- `crossed`: never in a mode without a 16-bit index addition (R104 to R111). -/
def MemOperand.crossed (m : MemOperand) (s : State) : Bool := pagesDiffer (MemOperand.ea m s) (MemOperand.base m s)

/-- The operand byte of a read instruction in a memory mode: `MemRead(ea, 1)` (R100). -/
def State.readOperand (m : MemOperand) (s : State) : Byte := s.busRead (MemOperand.ea m s)

/-- A write instruction: `MemWrite(ea, 1, v)`, without reading (R100). -/
def State.writeOperand (m : MemOperand) (v : Byte) (s : State) : State := s.busWrite (MemOperand.ea m s) v

/-- A read-modify-write instruction: one read, one write, and the flags (R100; 20_memory.md R60). -/
def State.modifyOperand (f : Byte → Flags → Byte × Flags) (m : MemOperand) (s : State) : State :=
  let r := f (s.readOperand m) s.flags
  (s.writeOperand m r.1).setFlags r.2

/-- The accumulator form of the same (R102; 43_shifts_rotates.md R170). -/
def State.modifyA (f : Byte → Flags → Byte × Flags) (s : State) : State :=
  let r := f s.a s.flags
  (s.setA r.1).setFlags r.2

/-- The branch target: the offset is added to the address of the next instruction (R113). -/
def branchTarget (off : Byte) (s : State) : Addr := s.pc + sext16 off

/-- `crossed` of a branch, measured from the address of the next instruction (R113). -/
def branchCrossed (off : Byte) (s : State) : Bool := pagesDiffer (branchTarget off s) s.pc

/-- `Branch(cond)` (45_control_flow.md R203). -/
def State.branch (cond : Cond) (off : Byte) (s : State) : State :=
  if s.flags.holds cond then s.setPc (branchTarget off s) else s

end Sys2Proof.Machine
end

