-- ==== Sys2Proof/Machine/Cycles.lean ====
section
/-! DEFINITION. Cycle accounting (70_reset_and_hazards.md R280 to R283): bookkeeping that nothing else reads (R285). -/

namespace Sys2Proof.Machine

/-- The classes of 40_addressing_modes.md R100 and the branches: what the penalties of R283 distinguish. -/
inductive CycleClass where
  | read
  | write
  | modify
  | branch (cond : Cond)
  | other
deriving DecidableEq, Repr

/-- The class of an instruction (40_addressing_modes.md R100, 70_reset_and_hazards.md R282). -/
def cycleClass : Instr → CycleClass
  | .ldaImm _ | .ldaZp _ | .ldaZpx _ | .ldaAbs _ | .ldaAbsx _ | .ldaAbsy _ | .ldaIndx _ | .ldaIndy _ | .ldxImm _ | .ldxZp _ | .ldxZpy _
  | .ldxAbs _ | .ldxAbsy _ | .ldyImm _ | .ldyZp _ | .ldyZpx _ | .ldyAbs _ | .ldyAbsx _ | .adcImm _ | .adcZp _ | .adcZpx _ | .adcAbs _
  | .adcAbsx _ | .adcAbsy _ | .adcIndx _ | .adcIndy _ | .sbcImm _ | .sbcZp _ | .sbcZpx _ | .sbcAbs _ | .sbcAbsx _ | .sbcAbsy _
  | .sbcIndx _ | .sbcIndy _ | .andImm _ | .andZp _ | .andZpx _ | .andAbs _ | .andAbsx _ | .andAbsy _ | .andIndx _ | .andIndy _
  | .oraImm _ | .oraZp _ | .oraZpx _ | .oraAbs _ | .oraAbsx _ | .oraAbsy _ | .oraIndx _ | .oraIndy _ | .eorImm _ | .eorZp _ | .eorZpx _
  | .eorAbs _ | .eorAbsx _ | .eorAbsy _ | .eorIndx _ | .eorIndy _ | .cmpImm _ | .cmpZp _ | .cmpZpx _ | .cmpAbs _ | .cmpAbsx _
  | .cmpAbsy _ | .cmpIndx _ | .cmpIndy _ | .cpxImm _ | .cpxZp _ | .cpxAbs _ | .cpyImm _ | .cpyZp _ | .cpyAbs _ | .bitZp _ | .bitAbs _ => .read
  | .staZp _ | .staZpx _ | .staAbs _ | .staAbsx _ | .staAbsy _ | .staIndx _ | .staIndy _ | .stxZp _ | .stxZpy _ | .stxAbs _ | .styZp _
  | .styZpx _ | .styAbs _ => .write
  | .incZp _ | .incZpx _ | .incAbs _ | .incAbsx _ | .decZp _ | .decZpx _ | .decAbs _ | .decAbsx _ | .aslAcc | .aslZp _ | .aslZpx _
  | .aslAbs _ | .aslAbsx _ | .lsrAcc | .lsrZp _ | .lsrZpx _ | .lsrAbs _ | .lsrAbsx _ | .rolAcc | .rolZp _ | .rolZpx _ | .rolAbs _
  | .rolAbsx _ | .rorAcc | .rorZp _ | .rorZpx _ | .rorAbs _ | .rorAbsx _ => .modify
  | .bcc _ => .branch .carryClear
  | .bcs _ => .branch .carrySet
  | .beq _ => .branch .equal
  | .bne _ => .branch .notEqual
  | .bmi _ => .branch .minus
  | .bpl _ => .branch .plus
  | .bvc _ => .branch .overflowClear
  | .bvs _ => .branch .overflowSet
  | .tax | .tay | .txa | .tya | .tsx | .txs | .inx | .iny | .dex | .dey | .pha | .pla | .php | .plp | .clc | .sec | .cli | .sei | .clv
  | .cld | .sed | .nop | .jmpAbs _ | .jmpInd _ | .jsr _ | .rts | .brk | .rti => .other
  | .illegal _ => .other

/-- The penalty of R283 in the state after the fetch: a read instruction pays 1 when its indexing crosses a page, a taken branch pays 1, and 1 more when its target
lies in another page than the next instruction; nothing else pays. -/
def cyclePenalty (i : Instr) (s : State) : Nat :=
  match cycleClass i, i.operand with
  | .read, .mem m => if MemOperand.crossed m s then 1 else 0
  | .branch cond, .rel off => if s.flags.holds cond then (if branchCrossed off s then 2 else 1) else 0
  | _, _ => 0

/-- The cycle cost of an instruction: the base of its opcode in `CYCLE_TABLE`, and the penalty (R282, R283). -/
def cycleCost (table : Byte → Nat) (i : Instr) (s : State) : Nat := table i.opcode + cyclePenalty i s

/-- The cost of the NMI entry (R282). -/
def nmiCycles : Nat := 7

/-- `cycles <- cycles + n; budget <- budget - n` (R273, R280). -/
def State.charge (n : Nat) (s : State) : State := { s with cycles := s.cycles + n, budget := s.budget - n }

end Sys2Proof.Machine
end

