-- ==== Sys2Proof/Machine/LoadStore.lean ====
section
/-! DEFINITION. Loads, stores and register transfers (41_load_store_transfer.md R120 to R131), run after the fetch. -/

namespace Sys2Proof.Machine

/-! LDA, load accumulator (R120). -/

/-- `A <- M; SetZN(A)` (R120). -/
def State.loadA (m : Byte) (s : State) : State := (s.setA m).setZN m
/-- LDA immediate, A9 (R120). -/
def execLdaImm (v : Byte) (s : State) : Answer := .next (s.loadA v)
/-- LDA zero page, A5 (R120). -/
def execLdaZp (zp : Byte) (s : State) : Answer := .next (s.loadA (s.readOperand (.zp zp)))
/-- LDA zero page,X, B5 (R120). -/
def execLdaZpx (zp : Byte) (s : State) : Answer := .next (s.loadA (s.readOperand (.zpx zp)))
/-- LDA absolute, AD (R120). -/
def execLdaAbs (addr : Addr) (s : State) : Answer := .next (s.loadA (s.readOperand (.abs addr)))
/-- LDA absolute,X, BD (R120). -/
def execLdaAbsx (addr : Addr) (s : State) : Answer := .next (s.loadA (s.readOperand (.absx addr)))
/-- LDA absolute,Y, B9 (R120). -/
def execLdaAbsy (addr : Addr) (s : State) : Answer := .next (s.loadA (s.readOperand (.absy addr)))
/-- LDA (zp,X), A1 (R120). -/
def execLdaIndx (zp : Byte) (s : State) : Answer := .next (s.loadA (s.readOperand (.indx zp)))
/-- LDA (zp),Y, B1 (R120). -/
def execLdaIndy (zp : Byte) (s : State) : Answer := .next (s.loadA (s.readOperand (.indy zp)))

/-! LDX, load X (R121). -/

/-- `X <- M; SetZN(X)` (R121). -/
def State.loadX (m : Byte) (s : State) : State := (s.setX m).setZN m
/-- LDX immediate, A2 (R121). -/
def execLdxImm (v : Byte) (s : State) : Answer := .next (s.loadX v)
/-- LDX zero page, A6 (R121). -/
def execLdxZp (zp : Byte) (s : State) : Answer := .next (s.loadX (s.readOperand (.zp zp)))
/-- LDX zero page,Y, B6 (R121). -/
def execLdxZpy (zp : Byte) (s : State) : Answer := .next (s.loadX (s.readOperand (.zpy zp)))
/-- LDX absolute, AE (R121). -/
def execLdxAbs (addr : Addr) (s : State) : Answer := .next (s.loadX (s.readOperand (.abs addr)))
/-- LDX absolute,Y, BE (R121). -/
def execLdxAbsy (addr : Addr) (s : State) : Answer := .next (s.loadX (s.readOperand (.absy addr)))

/-! LDY, load Y (R122). -/

/-- `Y <- M; SetZN(Y)` (R122). -/
def State.loadY (m : Byte) (s : State) : State := (s.setY m).setZN m
/-- LDY immediate, A0 (R122). -/
def execLdyImm (v : Byte) (s : State) : Answer := .next (s.loadY v)
/-- LDY zero page, A4 (R122). -/
def execLdyZp (zp : Byte) (s : State) : Answer := .next (s.loadY (s.readOperand (.zp zp)))
/-- LDY zero page,X, B4 (R122). -/
def execLdyZpx (zp : Byte) (s : State) : Answer := .next (s.loadY (s.readOperand (.zpx zp)))
/-- LDY absolute, AC (R122). -/
def execLdyAbs (addr : Addr) (s : State) : Answer := .next (s.loadY (s.readOperand (.abs addr)))
/-- LDY absolute,X, BC (R122). -/
def execLdyAbsx (addr : Addr) (s : State) : Answer := .next (s.loadY (s.readOperand (.absx addr)))

/-! STA, store accumulator (R123). -/
/-- STA zero page, 85 (R123). -/
def execStaZp (zp : Byte) (s : State) : Answer := .next (s.writeOperand (.zp zp) s.a)
/-- STA zero page,X, 95 (R123). -/
def execStaZpx (zp : Byte) (s : State) : Answer := .next (s.writeOperand (.zpx zp) s.a)
/-- STA absolute, 8D (R123). -/
def execStaAbs (addr : Addr) (s : State) : Answer := .next (s.writeOperand (.abs addr) s.a)
/-- STA absolute,X, 9D (R123). -/
def execStaAbsx (addr : Addr) (s : State) : Answer := .next (s.writeOperand (.absx addr) s.a)
/-- STA absolute,Y, 99 (R123). -/
def execStaAbsy (addr : Addr) (s : State) : Answer := .next (s.writeOperand (.absy addr) s.a)
/-- STA (zp,X), 81 (R123). -/
def execStaIndx (zp : Byte) (s : State) : Answer := .next (s.writeOperand (.indx zp) s.a)
/-- STA (zp),Y, 91 (R123). -/
def execStaIndy (zp : Byte) (s : State) : Answer := .next (s.writeOperand (.indy zp) s.a)

/-! STX, store X (R124). -/
/-- STX zero page, 86 (R124). -/
def execStxZp (zp : Byte) (s : State) : Answer := .next (s.writeOperand (.zp zp) s.x)
/-- STX zero page,Y, 96 (R124). -/
def execStxZpy (zp : Byte) (s : State) : Answer := .next (s.writeOperand (.zpy zp) s.x)
/-- STX absolute, 8E (R124). -/
def execStxAbs (addr : Addr) (s : State) : Answer := .next (s.writeOperand (.abs addr) s.x)

/-! STY, store Y (R125). -/
/-- STY zero page, 84 (R125). -/
def execStyZp (zp : Byte) (s : State) : Answer := .next (s.writeOperand (.zp zp) s.y)
/-- STY zero page,X, 94 (R125). -/
def execStyZpx (zp : Byte) (s : State) : Answer := .next (s.writeOperand (.zpx zp) s.y)
/-- STY absolute, 8C (R125). -/
def execStyAbs (addr : Addr) (s : State) : Answer := .next (s.writeOperand (.abs addr) s.y)

/-! TAX, transfer A to X (R126). -/
/-- TAX, AA (R126). -/
def execTax (s : State) : Answer := .next (s.loadX s.a)

/-! TAY, transfer A to Y (R127). -/
/-- TAY, A8 (R127). -/
def execTay (s : State) : Answer := .next (s.loadY s.a)

/-! TXA, transfer X to A (R128). -/
/-- TXA, 8A (R128). -/
def execTxa (s : State) : Answer := .next (s.loadA s.x)

/-! TYA, transfer Y to A (R129). -/
/-- TYA, 98 (R129). -/
def execTya (s : State) : Answer := .next (s.loadA s.y)

/-! TSX, transfer S to X (R130). -/
/-- TSX, BA (R130). -/
def execTsx (s : State) : Answer := .next (s.loadX s.sp)

/-! TXS, transfer X to S (R131). -/
/-- TXS, 9A (R131). -/
def execTxs (s : State) : Answer := .next (s.setSp s.x)

end Sys2Proof.Machine
end

