-- ==== Sys2Proof/Machine/Arith.lean ====
section
/-! DEFINITION. Arithmetic, logic, compare, bit test, increment and decrement (42_arithmetic_logic.md R140 to R158), run after the fetch. -/

namespace Sys2Proof.Machine

/-! ADC, add with carry (R142). -/

/-- `A <- AddWithCarry(A, M, b2n(C)); SetZN(A)` (R142). -/
def State.adc (m : Byte) (s : State) : State :=
  let r := addWithCarry s.a m s.flags
  ((s.setA r.1).setFlags r.2).setZN r.1
/-- ADC immediate, 69 (R142). -/
def execAdcImm (v : Byte) (s : State) : Answer := .next (s.adc v)
/-- ADC zero page, 65 (R142). -/
def execAdcZp (zp : Byte) (s : State) : Answer := .next (s.adc (s.readOperand (.zp zp)))
/-- ADC zero page,X, 75 (R142). -/
def execAdcZpx (zp : Byte) (s : State) : Answer := .next (s.adc (s.readOperand (.zpx zp)))
/-- ADC absolute, 6D (R142). -/
def execAdcAbs (addr : Addr) (s : State) : Answer := .next (s.adc (s.readOperand (.abs addr)))
/-- ADC absolute,X, 7D (R142). -/
def execAdcAbsx (addr : Addr) (s : State) : Answer := .next (s.adc (s.readOperand (.absx addr)))
/-- ADC absolute,Y, 79 (R142). -/
def execAdcAbsy (addr : Addr) (s : State) : Answer := .next (s.adc (s.readOperand (.absy addr)))
/-- ADC (zp,X), 61 (R142). -/
def execAdcIndx (zp : Byte) (s : State) : Answer := .next (s.adc (s.readOperand (.indx zp)))
/-- ADC (zp),Y, 71 (R142). -/
def execAdcIndy (zp : Byte) (s : State) : Answer := .next (s.adc (s.readOperand (.indy zp)))

/-! SBC, subtract with carry (R143). -/

/-- ADC of the one's complement of the operand (R143). -/
def State.sbc (m : Byte) (s : State) : State := s.adc (m ^^^ 0xFF)
/-- SBC immediate, E9 (R143). -/
def execSbcImm (v : Byte) (s : State) : Answer := .next (s.sbc v)
/-- SBC zero page, E5 (R143). -/
def execSbcZp (zp : Byte) (s : State) : Answer := .next (s.sbc (s.readOperand (.zp zp)))
/-- SBC zero page,X, F5 (R143). -/
def execSbcZpx (zp : Byte) (s : State) : Answer := .next (s.sbc (s.readOperand (.zpx zp)))
/-- SBC absolute, ED (R143). -/
def execSbcAbs (addr : Addr) (s : State) : Answer := .next (s.sbc (s.readOperand (.abs addr)))
/-- SBC absolute,X, FD (R143). -/
def execSbcAbsx (addr : Addr) (s : State) : Answer := .next (s.sbc (s.readOperand (.absx addr)))
/-- SBC absolute,Y, F9 (R143). -/
def execSbcAbsy (addr : Addr) (s : State) : Answer := .next (s.sbc (s.readOperand (.absy addr)))
/-- SBC (zp,X), E1 (R143). -/
def execSbcIndx (zp : Byte) (s : State) : Answer := .next (s.sbc (s.readOperand (.indx zp)))
/-- SBC (zp),Y, F1 (R143). -/
def execSbcIndy (zp : Byte) (s : State) : Answer := .next (s.sbc (s.readOperand (.indy zp)))

/-! AND, bitwise and (R144). -/

/-- `A <- A & M; SetZN(A)` (R144). -/
def State.andA (m : Byte) (s : State) : State := s.loadA (s.a &&& m)
/-- AND immediate, 29 (R144). -/
def execAndImm (v : Byte) (s : State) : Answer := .next (s.andA v)
/-- AND zero page, 25 (R144). -/
def execAndZp (zp : Byte) (s : State) : Answer := .next (s.andA (s.readOperand (.zp zp)))
/-- AND zero page,X, 35 (R144). -/
def execAndZpx (zp : Byte) (s : State) : Answer := .next (s.andA (s.readOperand (.zpx zp)))
/-- AND absolute, 2D (R144). -/
def execAndAbs (addr : Addr) (s : State) : Answer := .next (s.andA (s.readOperand (.abs addr)))
/-- AND absolute,X, 3D (R144). -/
def execAndAbsx (addr : Addr) (s : State) : Answer := .next (s.andA (s.readOperand (.absx addr)))
/-- AND absolute,Y, 39 (R144). -/
def execAndAbsy (addr : Addr) (s : State) : Answer := .next (s.andA (s.readOperand (.absy addr)))
/-- AND (zp,X), 21 (R144). -/
def execAndIndx (zp : Byte) (s : State) : Answer := .next (s.andA (s.readOperand (.indx zp)))
/-- AND (zp),Y, 31 (R144). -/
def execAndIndy (zp : Byte) (s : State) : Answer := .next (s.andA (s.readOperand (.indy zp)))

/-! ORA, bitwise or (R145). -/

/-- `A <- A | M; SetZN(A)` (R145). -/
def State.orA (m : Byte) (s : State) : State := s.loadA (s.a ||| m)
/-- ORA immediate, 09 (R145). -/
def execOraImm (v : Byte) (s : State) : Answer := .next (s.orA v)
/-- ORA zero page, 05 (R145). -/
def execOraZp (zp : Byte) (s : State) : Answer := .next (s.orA (s.readOperand (.zp zp)))
/-- ORA zero page,X, 15 (R145). -/
def execOraZpx (zp : Byte) (s : State) : Answer := .next (s.orA (s.readOperand (.zpx zp)))
/-- ORA absolute, 0D (R145). -/
def execOraAbs (addr : Addr) (s : State) : Answer := .next (s.orA (s.readOperand (.abs addr)))
/-- ORA absolute,X, 1D (R145). -/
def execOraAbsx (addr : Addr) (s : State) : Answer := .next (s.orA (s.readOperand (.absx addr)))
/-- ORA absolute,Y, 19 (R145). -/
def execOraAbsy (addr : Addr) (s : State) : Answer := .next (s.orA (s.readOperand (.absy addr)))
/-- ORA (zp,X), 01 (R145). -/
def execOraIndx (zp : Byte) (s : State) : Answer := .next (s.orA (s.readOperand (.indx zp)))
/-- ORA (zp),Y, 11 (R145). -/
def execOraIndy (zp : Byte) (s : State) : Answer := .next (s.orA (s.readOperand (.indy zp)))

/-! EOR, bitwise exclusive or (R146). -/

/-- `A <- A ^ M; SetZN(A)` (R146). -/
def State.eorA (m : Byte) (s : State) : State := s.loadA (s.a ^^^ m)
/-- EOR immediate, 49 (R146). -/
def execEorImm (v : Byte) (s : State) : Answer := .next (s.eorA v)
/-- EOR zero page, 45 (R146). -/
def execEorZp (zp : Byte) (s : State) : Answer := .next (s.eorA (s.readOperand (.zp zp)))
/-- EOR zero page,X, 55 (R146). -/
def execEorZpx (zp : Byte) (s : State) : Answer := .next (s.eorA (s.readOperand (.zpx zp)))
/-- EOR absolute, 4D (R146). -/
def execEorAbs (addr : Addr) (s : State) : Answer := .next (s.eorA (s.readOperand (.abs addr)))
/-- EOR absolute,X, 5D (R146). -/
def execEorAbsx (addr : Addr) (s : State) : Answer := .next (s.eorA (s.readOperand (.absx addr)))
/-- EOR absolute,Y, 59 (R146). -/
def execEorAbsy (addr : Addr) (s : State) : Answer := .next (s.eorA (s.readOperand (.absy addr)))
/-- EOR (zp,X), 41 (R146). -/
def execEorIndx (zp : Byte) (s : State) : Answer := .next (s.eorA (s.readOperand (.indx zp)))
/-- EOR (zp),Y, 51 (R146). -/
def execEorIndy (zp : Byte) (s : State) : Answer := .next (s.eorA (s.readOperand (.indy zp)))

/-! CMP, compare A (R148). -/

/-- `Compare(r, M)` with a register `r` (R147 to R150). -/
def State.compareWith (r m : Byte) (s : State) : State := s.setFlags (s.flags.compare r m)
/-- CMP immediate, C9 (R148). -/
def execCmpImm (v : Byte) (s : State) : Answer := .next (s.compareWith s.a v)
/-- CMP zero page, C5 (R148). -/
def execCmpZp (zp : Byte) (s : State) : Answer := .next (s.compareWith s.a (s.readOperand (.zp zp)))
/-- CMP zero page,X, D5 (R148). -/
def execCmpZpx (zp : Byte) (s : State) : Answer := .next (s.compareWith s.a (s.readOperand (.zpx zp)))
/-- CMP absolute, CD (R148). -/
def execCmpAbs (addr : Addr) (s : State) : Answer := .next (s.compareWith s.a (s.readOperand (.abs addr)))
/-- CMP absolute,X, DD (R148). -/
def execCmpAbsx (addr : Addr) (s : State) : Answer := .next (s.compareWith s.a (s.readOperand (.absx addr)))
/-- CMP absolute,Y, D9 (R148). -/
def execCmpAbsy (addr : Addr) (s : State) : Answer := .next (s.compareWith s.a (s.readOperand (.absy addr)))
/-- CMP (zp,X), C1 (R148). -/
def execCmpIndx (zp : Byte) (s : State) : Answer := .next (s.compareWith s.a (s.readOperand (.indx zp)))
/-- CMP (zp),Y, D1 (R148). -/
def execCmpIndy (zp : Byte) (s : State) : Answer := .next (s.compareWith s.a (s.readOperand (.indy zp)))

/-! CPX, compare X (R149). -/
/-- CPX immediate, E0 (R149). -/
def execCpxImm (v : Byte) (s : State) : Answer := .next (s.compareWith s.x v)
/-- CPX zero page, E4 (R149). -/
def execCpxZp (zp : Byte) (s : State) : Answer := .next (s.compareWith s.x (s.readOperand (.zp zp)))
/-- CPX absolute, EC (R149). -/
def execCpxAbs (addr : Addr) (s : State) : Answer := .next (s.compareWith s.x (s.readOperand (.abs addr)))

/-! CPY, compare Y (R150). -/
/-- CPY immediate, C0 (R150). -/
def execCpyImm (v : Byte) (s : State) : Answer := .next (s.compareWith s.y v)
/-- CPY zero page, C4 (R150). -/
def execCpyZp (zp : Byte) (s : State) : Answer := .next (s.compareWith s.y (s.readOperand (.zp zp)))
/-- CPY absolute, CC (R150). -/
def execCpyAbs (addr : Addr) (s : State) : Answer := .next (s.compareWith s.y (s.readOperand (.abs addr)))

/-! BIT, bit test (R151). -/

/-- BIT (R151). -/
def State.bitTest (m : Byte) (s : State) : State := s.setFlags (s.flags.bitTest s.a m)
/-- BIT zero page, 24 (R151). -/
def execBitZp (zp : Byte) (s : State) : Answer := .next (s.bitTest (s.readOperand (.zp zp)))
/-- BIT absolute, 2C (R151). -/
def execBitAbs (addr : Addr) (s : State) : Answer := .next (s.bitTest (s.readOperand (.abs addr)))

/-! INC, increment memory (R152). -/
/-- INC zero page, E6 (R152). -/
def execIncZp (zp : Byte) (s : State) : Answer := .next (s.modifyOperand increment (.zp zp))
/-- INC zero page,X, F6 (R152). -/
def execIncZpx (zp : Byte) (s : State) : Answer := .next (s.modifyOperand increment (.zpx zp))
/-- INC absolute, EE (R152). -/
def execIncAbs (addr : Addr) (s : State) : Answer := .next (s.modifyOperand increment (.abs addr))
/-- INC absolute,X, FE (R152). -/
def execIncAbsx (addr : Addr) (s : State) : Answer := .next (s.modifyOperand increment (.absx addr))

/-! DEC, decrement memory (R153). -/
/-- DEC zero page, C6 (R153). -/
def execDecZp (zp : Byte) (s : State) : Answer := .next (s.modifyOperand decrement (.zp zp))
/-- DEC zero page,X, D6 (R153). -/
def execDecZpx (zp : Byte) (s : State) : Answer := .next (s.modifyOperand decrement (.zpx zp))
/-- DEC absolute, CE (R153). -/
def execDecAbs (addr : Addr) (s : State) : Answer := .next (s.modifyOperand decrement (.abs addr))
/-- DEC absolute,X, DE (R153). -/
def execDecAbsx (addr : Addr) (s : State) : Answer := .next (s.modifyOperand decrement (.absx addr))

/-! INX, increment X (R154). -/

/-- `X <- u8(X + 1)` or `u8(X - 1)`, then `SetZN(X)`, by the operation `f` (R154, R156). -/
def State.modifyX (f : Byte → Flags → Byte × Flags) (s : State) : State := (s.setX (f s.x s.flags).1).setFlags (f s.x s.flags).2
/-- INX, E8 (R154). -/
def execInx (s : State) : Answer := .next (s.modifyX increment)

/-! INY, increment Y (R155). -/

/-- The same on `Y` (R155, R157). -/
def State.modifyY (f : Byte → Flags → Byte × Flags) (s : State) : State := (s.setY (f s.y s.flags).1).setFlags (f s.y s.flags).2
/-- INY, C8 (R155). -/
def execIny (s : State) : Answer := .next (s.modifyY increment)

/-! DEX, decrement X (R156). -/
/-- DEX, CA (R156). -/
def execDex (s : State) : Answer := .next (s.modifyX decrement)

/-! DEY, decrement Y (R157). -/
/-- DEY, 88 (R157). -/
def execDey (s : State) : Answer := .next (s.modifyY decrement)

end Sys2Proof.Machine
end

