-- ==== Sys2Proof/Machine/Control.lean ====
section
/-! DEFINITION. Jumps, subroutines, branches, BRK, RTI (45_control_flow.md R200 to R219) and the illegal opcode, run after the fetch: `PC` is the address of the next sequential
instruction (10_state.md R13). -/

namespace Sys2Proof.Machine

/-! JMP, jump (R200). -/
/-- JMP absolute, 4C (R200). -/
def execJmpAbs (addr : Addr) (s : State) : Answer := .next (s.setPc addr)
/-- JMP (ptr), 6C (R200). -/
def execJmpInd (ptr : Addr) (s : State) : Answer := .next (s.setPc (s.readPageWrap16 ptr))

/-! JSR, jump to subroutine (R201). -/

/-- JSR, run after its operand is fetched: the address of its last byte is pushed, then the jump (R201). -/
def State.jumpSubroutine (target : Addr) (s : State) : State := (s.push16 (s.pc - 1)).setPc target
/-- JSR absolute, 20 (R201). -/
def execJsr (addr : Addr) (s : State) : Answer := .next (s.jumpSubroutine addr)

/-! RTS, return from subroutine (R202). -/

/-- RTS: one is added back to the pulled address (R202). -/
def State.returnFromSubroutine (s : State) : State := s.pull16.2.setPc (s.pull16.1 + 1)
/-- RTS, 60 (R202). -/
def execRts (s : State) : Answer := .next (s.returnFromSubroutine)

/-! BCC, branch if C = 0 (R204). -/
/-- BCC, 90 (R204). -/
def execBcc (off : Byte) (s : State) : Answer := .next (s.branch .carryClear off)

/-! BCS, branch if C = 1 (R205). -/
/-- BCS, B0 (R205). -/
def execBcs (off : Byte) (s : State) : Answer := .next (s.branch .carrySet off)

/-! BEQ, branch if Z = 1 (R206). -/
/-- BEQ, F0 (R206). -/
def execBeq (off : Byte) (s : State) : Answer := .next (s.branch .equal off)

/-! BNE, branch if Z = 0 (R207). -/
/-- BNE, D0 (R207). -/
def execBne (off : Byte) (s : State) : Answer := .next (s.branch .notEqual off)

/-! BMI, branch if N = 1 (R208). -/
/-- BMI, 30 (R208). -/
def execBmi (off : Byte) (s : State) : Answer := .next (s.branch .minus off)

/-! BPL, branch if N = 0 (R209). -/
/-- BPL, 10 (R209). -/
def execBpl (off : Byte) (s : State) : Answer := .next (s.branch .plus off)

/-! BVC, branch if V = 0 (R210). -/
/-- BVC, 50 (R210). -/
def execBvc (off : Byte) (s : State) : Answer := .next (s.branch .overflowClear off)

/-! BVS, branch if V = 1 (R211). -/
/-- BVS, 70 (R211). -/
def execBvs (off : Byte) (s : State) : Answer := .next (s.branch .overflowSet off)

/-! BRK, software interrupt (R218). -/
/-- BRK, 00 (R218). -/
def execBrk (s : State) : Answer := .next (s.breakWith config.brkReturnOffset)

/-! RTI, return from interrupt (R219). -/
/-- RTI, 40 (R219). -/
def execRti (s : State) : Answer := .next (s.returnFromTrap)

/-! An illegal opcode byte (60_exceptions.md R231). -/

/-- ILLEGAL: the fault is taken; `step` reports it to the host (R231; log entry 3). -/
def execIllegal (op : Byte) (s : State) : Answer := .next (s.raiseIllegal op)

end Sys2Proof.Machine
end

