-- ==== Sys2Proof/Machine/Shift.lean ====
section
/-! DEFINITION. Shifts and rotates (43_shifts_rotates.md R170 to R174), run after the fetch. -/

namespace Sys2Proof.Machine

/-! ASL, arithmetic shift left (R171). -/
/-- ASL accumulator, 0A (R171). -/
def execAslAcc (s : State) : Answer := .next (s.modifyA shiftLeft)
/-- ASL zero page, 06 (R171). -/
def execAslZp (zp : Byte) (s : State) : Answer := .next (s.modifyOperand shiftLeft (.zp zp))
/-- ASL zero page,X, 16 (R171). -/
def execAslZpx (zp : Byte) (s : State) : Answer := .next (s.modifyOperand shiftLeft (.zpx zp))
/-- ASL absolute, 0E (R171). -/
def execAslAbs (addr : Addr) (s : State) : Answer := .next (s.modifyOperand shiftLeft (.abs addr))
/-- ASL absolute,X, 1E (R171). -/
def execAslAbsx (addr : Addr) (s : State) : Answer := .next (s.modifyOperand shiftLeft (.absx addr))

/-! LSR, logical shift right (R172). -/
/-- LSR accumulator, 4A (R172). -/
def execLsrAcc (s : State) : Answer := .next (s.modifyA shiftRight)
/-- LSR zero page, 46 (R172). -/
def execLsrZp (zp : Byte) (s : State) : Answer := .next (s.modifyOperand shiftRight (.zp zp))
/-- LSR zero page,X, 56 (R172). -/
def execLsrZpx (zp : Byte) (s : State) : Answer := .next (s.modifyOperand shiftRight (.zpx zp))
/-- LSR absolute, 4E (R172). -/
def execLsrAbs (addr : Addr) (s : State) : Answer := .next (s.modifyOperand shiftRight (.abs addr))
/-- LSR absolute,X, 5E (R172). -/
def execLsrAbsx (addr : Addr) (s : State) : Answer := .next (s.modifyOperand shiftRight (.absx addr))

/-! ROL, rotate left through carry (R173). -/
/-- ROL accumulator, 2A (R173). -/
def execRolAcc (s : State) : Answer := .next (s.modifyA rotateLeft)
/-- ROL zero page, 26 (R173). -/
def execRolZp (zp : Byte) (s : State) : Answer := .next (s.modifyOperand rotateLeft (.zp zp))
/-- ROL zero page,X, 36 (R173). -/
def execRolZpx (zp : Byte) (s : State) : Answer := .next (s.modifyOperand rotateLeft (.zpx zp))
/-- ROL absolute, 2E (R173). -/
def execRolAbs (addr : Addr) (s : State) : Answer := .next (s.modifyOperand rotateLeft (.abs addr))
/-- ROL absolute,X, 3E (R173). -/
def execRolAbsx (addr : Addr) (s : State) : Answer := .next (s.modifyOperand rotateLeft (.absx addr))

/-! ROR, rotate right through carry (R174). -/
/-- ROR accumulator, 6A (R174). -/
def execRorAcc (s : State) : Answer := .next (s.modifyA rotateRight)
/-- ROR zero page, 66 (R174). -/
def execRorZp (zp : Byte) (s : State) : Answer := .next (s.modifyOperand rotateRight (.zp zp))
/-- ROR zero page,X, 76 (R174). -/
def execRorZpx (zp : Byte) (s : State) : Answer := .next (s.modifyOperand rotateRight (.zpx zp))
/-- ROR absolute, 6E (R174). -/
def execRorAbs (addr : Addr) (s : State) : Answer := .next (s.modifyOperand rotateRight (.abs addr))
/-- ROR absolute,X, 7E (R174). -/
def execRorAbsx (addr : Addr) (s : State) : Answer := .next (s.modifyOperand rotateRight (.absx addr))

end Sys2Proof.Machine
end

