-- ==== Sys2Proof/Machine/StackFlag.lean ====
section
/-! DEFINITION. Stack, flag and no-operation instructions (44_stack_flags_nop.md R180 to R191), run after the fetch. -/

namespace Sys2Proof.Machine

/-! PHA, push A (R180). -/
/-- PHA, 48 (R180). -/
def execPha (s : State) : Answer := .next (s.push8 s.a)

/-! PLA, pull A (R181). -/
/-- PLA, 68 (R181). -/
def execPla (s : State) : Answer := .next (s.pull8.2.loadA s.pull8.1)

/-! PHP, push status (R182). -/
/-- PHP, 08 (R182). -/
def execPhp (s : State) : Answer := .next (s.push8 (s.flags.statusByte true))

/-! PLP, pull status (R183). -/
/-- PLP, 28 (R183). -/
def execPlp (s : State) : Answer := .next (s.pull8.2.setFlags (Flags.ofStatusByte s.pull8.1))

/-! CLC, clear C (R184). -/
/-- CLC, 18 (R184). -/
def execClc (s : State) : Answer := .next (s.setFlags { s.flags with c := false })

/-! SEC, set C (R185). -/
/-- SEC, 38 (R185). -/
def execSec (s : State) : Answer := .next (s.setFlags { s.flags with c := true })

/-! CLI, clear I (R186). -/
/-- CLI, 58 (R186). -/
def execCli (s : State) : Answer := .next (s.setFlags { s.flags with i := false })

/-! SEI, set I (R187). -/
/-- SEI, 78 (R187). -/
def execSei (s : State) : Answer := .next (s.setFlags { s.flags with i := true })

/-! CLV, clear V (R188). -/
/-- CLV, B8 (R188). -/
def execClv (s : State) : Answer := .next (s.setFlags { s.flags with v := false })

/-! CLD, clear D (R189). -/
/-- CLD, D8 (R189). -/
def execCld (s : State) : Answer := .next (s.setFlags { s.flags with d := false })

/-! SED, set D (R190). -/
/-- SED, F8 (R190). -/
def execSed (s : State) : Answer := .next (s.setFlags { s.flags with d := true })

/-! NOP, no operation (R191). -/
/-- NOP, EA (R191). -/
def execNop (s : State) : Answer := .next s

end Sys2Proof.Machine
end

