-- ==== Sys2Proof/Machine/Fetch.lean ====
section
/-! DEFINITION. The fetch (30_encoding.md R82, R85) and the parts `step` is put together from (70_reset_and_hazards.md R273). -/

namespace Sys2Proof.Machine

/-- The instruction at `PC`: the opcode byte and the two bytes after it, each read through the bus at its own address, `PC` wrapping before mirroring (R82). A shorter
format ignores the bytes it does not have; reading them changes nothing, since no read has a side effect (20_memory.md R46; log entry 9). -/
def State.fetch (implemented : Byte → Bool) (s : State) : Instr :=
  decodeWith implemented (s.busRead s.pc) (s.busRead (s.pc + 1)) (s.busRead (s.pc + 2))

/-- `PC` after the opcode and the operand bytes of `i` are fetched (10_state.md R13). -/
def State.advance (i : Instr) (s : State) : State := s.setPc (s.pc + BitVec.ofNat 16 i.length)

/-- `exec` under a configuration: BRK is the one meaning that reads a parameter (45_control_flow.md R218). -/
def execWith (cfg : Config) (i : Instr) (s : State) : Answer :=
  if i = .brk then .next (s.breakWith cfg.brkReturnOffset) else exec i s

/-- What a step makes of a meaning's answer: an illegal opcode is returned to the host as the fault, its counters untouched; every other instruction is
charged its cost, reckoned in the state `s` after the fetch (70_reset_and_hazards.md R273; log entry 3). -/
def finishStep (cfg : Config) (i : Instr) (s : State) : Answer → Answer
  | .next t => if t.halted then .fault (.illegalOpcode t.faultInfo t) else .next (t.charge (cycleCost cfg.cycleTable i s))
  | .fault r => .fault r
  | .refused r => .refused r

/-- The fetch, decode and execution of one instruction (30_encoding.md R85, 70_reset_and_hazards.md R273). -/
def runInstruction (cfg : Config) (s : State) : Answer :=
  let i := s.fetch cfg.implemented
  finishStep cfg i (s.advance i) (execWith cfg i (s.advance i))

/-- `Step()` (70_reset_and_hazards.md R273) in the order of 60_exceptions.md R239, after the refusal of R264. -/
def runStep (cfg : Config) (s : State) : Answer :=
  if !s.resetDone then .refused .notReset
  else if s.halted then .fault (.illegalOpcode s.faultInfo s)
  else if s.nmiPending then .next (s.enterNmi.charge nmiCycles)
  else runInstruction cfg s

/-- A raw store into `MEM` at the canonical address of `a`, without the side effects of the bus. -/
def State.placeByte (a : Addr) (v : Byte) (s : State) : State := { s with mem := Memory.write s.mem (mirror a).toNat v }

/-- The three bytes of an instruction given as the opcode table numbers it, placed where the next step fetches, in a state whose next step is a fetch: reset, not halted, no
NMI pending (log entry 7). -/
def placeInstruction (s : State) (nbits w : Nat) : State :=
  let w := w % 2 ^ nbits
  let t := { s with nmiPending := false, halted := false, faultInfo := none, resetDone := true }
  ((t.placeByte s.pc (tableByte w 0)).placeByte (s.pc + 1) (tableByte w 1)).placeByte (s.pc + 2) (tableByte w 2)

end Sys2Proof.Machine
end

