-- ==== Sys2Proof/Machine/Step.lean ====
section
/-! DEFINITION. One step of the machine, at the parameters the spec decides, and under any others. -/

namespace Sys2Proof.Machine

/-- `Step()` under a configuration (70_reset_and_hazards.md R273, 00_scope.md R4). -/
def stepWith (cfg : Config) (s : State) : Host.Outcome State Fault Refusal := runStep cfg s

/-- `Step()` (70_reset_and_hazards.md R273). -/
def step (s : State) : Host.Outcome State Fault Refusal := stepWith config s

/-- `s` with an instruction stored where `step` fetches its next one; it stands for the host's loading of a program (log entry 7). -/
def State.withFetchWord (s : State) (nbits w : Nat) : State := placeInstruction s nbits w

end Sys2Proof.Machine
end

