-- ==== Sys2Proof/Machine/HostOps.lean ====
section
/-! DEFINITION. The host interface, complete (70_reset_and_hazards.md R270). The host acts only between steps (00_scope.md R5); its reads are the fields of State and
`State.rawRead` (20_memory.md R74). -/

namespace Sys2Proof.Machine

/-- `HEADER_LEN` (00_scope.md R4). -/
def headerLen : Nat := 16

/-- `PRG_LEN` (00_scope.md R4). -/
def prgLen : Nat := 16384

/-- The operations of R270 that change state. -/
inductive HostOp where
  | reset
  | runOneInstruction
  | tick
  | loadProgram (image : List Byte)
  | resetMemory
  | triggerNmi
  | ppuStatusRead
  | ppuDataAccess
deriving DecidableEq, Repr

/-- `loadProgram(image)`: the program after the header, copied into both windows straight into the array; a short image is refused
(20_memory.md R72). -/
def loadProgram (image : List Byte) (s : State) : Answer :=
  if image.length < headerLen + prgLen then .refused (.shortImage image.length)
  else
    let prg := (image.drop headerLen).take prgLen
    .next { s with mem := Memory.writeBytes (Memory.writeBytes s.mem 0x8000 prg) 0xC000 prg }

/-- Whether the CPU has a step at all: `runOneInstruction` and `tick` touch nothing while it has none, and answer what `step` answers
(60_exceptions.md R234; log entry 4). -/
def State.canStep (s : State) : Bool := s.resetDone && !s.halted

/-- `runOneInstruction()` under a configuration: a negative budget is raised to 0, then exactly one step (70_reset_and_hazards.md R272). -/
def runOneInstructionWith (cfg : Config) (s : State) : Answer :=
  if s.canStep then stepWith cfg { s with budget := if s.budget < 0 then 0 else s.budget } else stepWith cfg s

/-- `while budget >= 0: Step()` as far as `steps` steps go: its answer where it ends within them, a fault ending it too, and none where it is still running then
(70_reset_and_hazards.md R271; log entry 10). -/
def stepWhileBudget (cfg : Config) : Nat → State → Option Answer
  | 0, s => if 0 ≤ s.budget then none else some (.next s)
  | steps + 1, s =>
    if 0 ≤ s.budget then
      match stepWith cfg s with
      | .next t => stepWhileBudget cfg steps t
      | .fault r => some (.fault r)
      | .refused r => some (.refused r)
    else some (.next s)

/-- `tick()` under a configuration, watched for `steps` steps: one more cycle of budget, then steps while it is not negative (70_reset_and_hazards.md R271). -/
def tickWith (cfg : Config) (steps : Nat) (s : State) : Option Answer :=
  if s.canStep then stepWhileBudget cfg steps { s with budget := s.budget + 1 } else some (stepWith cfg s)

/-- The effect of a host operation (R270) under a configuration: the parameters of 00_scope.md R4 reach the reset (R260) and every operation that steps. Only
`tick` looks at `steps`, and has no answer while its loop is still running (log entry 10). -/
def hostOpWith (cfg : Config) (steps : Nat) (op : HostOp) (s : State) : Option Answer :=
  match op with
  | .reset => some (.next (s.resetWith cfg.resetZeroesMemory))
  | .runOneInstruction => some (runOneInstructionWith cfg s)
  | .tick => tickWith cfg steps s
  | .loadProgram image => some (loadProgram image s)
  | .resetMemory => some (.next s.resetMemory)
  | .triggerNmi => some (.next s.triggerNmi)
  | .ppuStatusRead => some (.next s.ppuStatusRead)
  | .ppuDataAccess => some (.next s.ppuDataAccess)

/-- The effect of a host operation (R270) at the parameters the spec decides, where "every step lowers `budget` by at least 1" (R271) and so the loop of `tick` ends
within the steps it is watched for: `HostOperationsTakeTheParameters` states it, and the default is never taken (log entry 10). -/
def hostOp (op : HostOp) (s : State) : Answer := (hostOpWith config (s.budget + 2).toNat op s).getD (.next s)

end Sys2Proof.Machine
end

