-- ==== Sys2Proof/Safety.lean ====
section
/-! DEFINITION. What claims call a sound state and a safe run. -/

namespace Sys2Proof.Machine

/-- The invariant of the CORE: the byte array is in its canonical form, PPUADDR lies in 0x0000 to 0x3FFF (10_state.md R34), and a fault is recorded exactly when the CPU is
halted (60_exceptions.md R231, 10_state.md R30). -/
structure State.Inv (s : State) : Prop where
  mem_wf : Memory.wf s.mem
  ppu_addr : s.ppu.addr.toNat ≤ 0x3FFF
  halted_iff : s.halted = s.faultInfo.isSome

/-- A run of `n` steps that meets no fault: the normal return of 60_exceptions.md R231, as opposed to the fault returned to the host. -/
def RunsSafely (n : Nat) (s : State) : Prop := ∃ t, Host.Core.run core n s = .next t

/-- What the host can bring about from the construction state: any operations one after the other (70_reset_and_hazards.md R270), a fault leaving the state it names. -/
inductive HostReachable : State → Prop
  | powerOn : HostReachable .powerOn
  | operation (op : HostOp) (s t : State) : HostReachable s → hostOp op s = .next t → HostReachable t
  | fault (op : HostOp) (s : State) (info : Option FaultInfo) (left : State) :
      HostReachable s → hostOp op s = .fault (.illegalOpcode info left) → HostReachable left

end Sys2Proof.Machine
end

