-- ==== Sys2Proof/Certificates/Slice0/Obligations.lean ====
section
/-! DEFINITION. The statements about the model, from the numbered rules of the spec. A statement about an instruction speaks of `exec`, which runs after the fetch (log entry
8): `s.pc` is the address of the next instruction, and its own address is `s.pc` less its length. `StepRunsTheDecodedInstruction` carries it to `step`. -/

namespace Sys2Proof.Machine

/-! The words of the statements. -/

/-- The two bytes of a 16-bit operand in memory order: low byte first (20_memory.md R61). -/
def wordBytes (w : Addr) : List Byte := [BitVec.ofNat 8 (w.toNat % 256), BitVec.ofNat 8 (w.toNat / 256)]

/-- `{hi, lo}` in numbers. -/
def wordOf (hi lo : Byte) : Addr := BitVec.ofNat 16 (256 * hi.toNat + lo.toNat)

/-- `SetZN(v)` in numbers (10_state.md R20). -/
def zn (v : Byte) (f : Flags) : Flags := { f with z := decide (v.toNat = 0), n := decide (128 ≤ v.toNat) }

/-- The carry flag as a number. -/
def carry (s : State) : Nat := if s.flags.c then 1 else 0

/-- The stack address `0x0100 + S`, in numbers (10_state.md R11). -/
def stackAt (sp : Byte) : Addr := BitVec.ofNat 16 (0x100 + sp.toNat)

/-- `i` is encoded in `bytes`, and from the state `s` after its fetch it completes with `t`. -/
def Does (i : Instr) (bytes : List Byte) (s t : State) : Prop := encode i = bytes ∧ exec i s = .next t

/-- `i` is encoded in `bytes`, and from `s` it completes: the one byte at the canonical address of `addr` becomes `v`, the PPU records take the side effect of that bus write, the
flags become `f`, and nothing else of the state changes. -/
def Stores (i : Instr) (bytes : List Byte) (s : State) (addr : Addr) (v : Byte) (f : Flags) : Prop :=
  encode i = bytes ∧ ∃ t, exec i s = .next t ∧
    t = { s with mem := t.mem, ppu := s.ppu.busWrite (mirror addr) v, flags := f } ∧
    ∀ b : Addr, t.rawRead b = if b = mirror addr then v else s.rawRead b

/-- The state a BRK or NMI frame leaves: three bytes pushed, high to low the return address and the status byte, `S` three lower, `I` set, `PC` from the
vector, the other fields those of `s` (60_exceptions.md R241). -/
def TrapFrame (s t : State) (ret : Addr) (status : Byte) (vector : Addr) : Prop :=
  t = { s with sp := s.sp - 3, flags := { s.flags with i := true }, mem := t.mem, pc := wordOf (t.busRead (vector + 1)) (t.busRead vector) } ∧
    ∀ b : Addr, t.rawRead b =
      if b = stackAt s.sp then BitVec.ofNat 8 (ret.toNat / 256)
      else if b = stackAt (s.sp - 1) then BitVec.ofNat 8 (ret.toNat % 256)
      else if b = stackAt (s.sp - 2) then status
      else s.rawRead b

/-- The 105 illegal opcode bytes, in the order of 30_encoding.md section 4. -/
def listedIllegal : List Byte :=
  [0x02, 0x03, 0x04, 0x07, 0x0B, 0x0C, 0x0F, 0x12, 0x13, 0x14, 0x17, 0x1A, 0x1B, 0x1C, 0x1F, 0x22, 0x23, 0x27, 0x2B, 0x2F,
    0x32, 0x33, 0x34, 0x37, 0x3A, 0x3B, 0x3C, 0x3F, 0x42, 0x43, 0x44, 0x47, 0x4B, 0x4F, 0x52, 0x53, 0x54, 0x57, 0x5A, 0x5B,
    0x5C, 0x5F, 0x62, 0x63, 0x64, 0x67, 0x6B, 0x6F, 0x72, 0x73, 0x74, 0x77, 0x7A, 0x7B, 0x7C, 0x7F, 0x80, 0x82, 0x83, 0x87,
    0x89, 0x8B, 0x8F, 0x92, 0x93, 0x97, 0x9B, 0x9C, 0x9E, 0x9F, 0xA3, 0xA7, 0xAB, 0xAF, 0xB2, 0xB3, 0xB7, 0xBB, 0xBF, 0xC2,
    0xC3, 0xC7, 0xCB, 0xCF, 0xD2, 0xD3, 0xD4, 0xD7, 0xDA, 0xDB, 0xDC, 0xDF, 0xE2, 0xE3, 0xE7, 0xEB, 0xEF, 0xF2, 0xF3, 0xF4,
    0xF7, 0xFA, 0xFB, 0xFC, 0xFF]

/-- A state whose next step is a fetch (70_reset_and_hazards.md R273). -/
def Fetches (s : State) : Prop := s.resetDone = true ∧ s.halted = false ∧ s.nmiPending = false

/-- `i` executed `n` times over. -/
def execTimes (i : Instr) : Nat → State → Answer
  | 0, s => .next s
  | n + 1, s =>
    match exec i s with
    | .next t => execTimes i n t
    | .fault r => .fault r
    | .refused r => .refused r

end Sys2Proof.Machine

open Sys2Proof Sys2Proof.Machine

/-- O1. For every well-formed instruction i and every byte list rest, decode (encode i ++ rest) is i and rest: no operand bit of any of the 152 constructors is dropped. The opcode bytes are general knowledge of the spec (D1, log entry 2, PRESUMED); the one constructor for the illegal bytes is the model's (log entry 1, DESIGN CHOICE). -/
def Obligations.DecodeInvertsEncode : Prop :=
  ∀ (i : Instr) (rest : List Byte), wellFormed i = true → decode (encode i ++ rest) = .ok (i, rest)

/-- O2. Whenever decode answers i and rest on a byte list, i is well formed and the list is the encoding of i followed by rest: each word has one meaning, and an illegal byte is never read as an instruction. Which bytes are instructions is general knowledge of the spec (D1, D2; log entry 2, PRESUMED); the one constructor for the illegal bytes is the model's (log entry 1, DESIGN CHOICE). -/
def Obligations.EncodeInvertsDecode : Prop :=
  ∀ (bytes : List Byte) (i : Instr) (rest : List Byte), decode bytes = .ok (i, rest) → wellFormed i = true ∧ bytes = encode i ++ rest

/-- O3. For every opcode byte and operand bytes: it decodes to illegal iff it is one of the 105 bytes of the list in 30_encoding.md section 4 (which the spec marks as derived), written out in the statement; otherwise the instruction has that opcode byte. The list has 105 entries. Which bytes are instructions is general knowledge of the spec (D1, D2; log entry 2, PRESUMED); the one constructor for the illegal bytes is the model's (log entry 1, DESIGN CHOICE). -/
def Obligations.IllegalBytesAreThe105Listed : Prop :=
  listedIllegal.length = 105 ∧
    ∀ op b1 b2 : Byte,
      (op ∈ listedIllegal → decode3 op b1 b2 = .illegal op) ∧
      (op ∉ listedIllegal → (decode3 op b1 b2).opcode = op ∧ ∀ o, decode3 op b1 b2 ≠ .illegal o)

/-- O4. The byte sequences of the assembler-syntax examples (30_encoding.md section 5), and four more words (a STA, PHA, BRK and one illegal byte), decode to the instruction they stand for, with the bytes that follow left over. The byte values are the ones the spec supplies from general knowledge (D1, log entry 2); the term for the illegal byte is the model's (log entry 1). That a sequence too short for its opcode, or empty, is an error of decode with a name of its own is the model's choice (log entry 22), not the spec's. -/
def Obligations.WrittenOutWordsDecode : Prop :=
  decode [0xE8] = .ok (.inx, []) ∧ decode [0x0A] = .ok (.aslAcc, []) ∧ decode [0xA9, 0x30] = .ok (.ldaImm 0x30, []) ∧
    decode [0xA5, 0x10] = .ok (.ldaZp 0x10, []) ∧ decode [0xB5, 0x10] = .ok (.ldaZpx 0x10, []) ∧
    decode [0xB6, 0x10] = .ok (.ldxZpy 0x10, []) ∧ decode [0xAD, 0x34, 0x12] = .ok (.ldaAbs 0x1234, []) ∧
    decode [0xBD, 0x34, 0x12] = .ok (.ldaAbsx 0x1234, []) ∧ decode [0xB9, 0x34, 0x12] = .ok (.ldaAbsy 0x1234, []) ∧
    decode [0x6C, 0x34, 0x12] = .ok (.jmpInd 0x1234, []) ∧ decode [0xA1, 0x10] = .ok (.ldaIndx 0x10, []) ∧
    decode [0xB1, 0x10] = .ok (.ldaIndy 0x10, []) ∧ decode [0xD0, 0x03] = .ok (.bne 0x03, []) ∧
    decode [0x8D, 0x00, 0x20] = .ok (.staAbs 0x2000, []) ∧ decode [0x48, 0x68] = .ok (.pha, [0x68]) ∧ decode [0x00, 0xEA] = .ok (.brk, [0xEA]) ∧
    decode [0x02, 0x10] = .ok (.illegal 0x02, [0x10]) ∧ decode [0xAD, 0x34] = .error (.truncated 0xAD) ∧ decode [] = .error .noBytes

/-- O5. When the CPU is reset, not halted and has no NMI pending, and the bytes at PC decode to i: step moves PC past the bytes of i, runs exec i there, and charges the cycle cost of i; for an illegal opcode step answers the fault with the byte, its address and the cycles before the step, and leaves a state that differs in halted and fault_info only. The cycle table and the page of a branch are the spec's decisions D14 and D26 (log entry 16, PRESUMED), and that PC and the counters stand at a fault is D12; that the fault carries the state it leaves is the model's choice (log entry 3), and so is that exec runs after the fetch (log entry 8). -/
def Obligations.StepRunsTheDecodedInstruction : Prop :=
  ∀ (s : State) (i : Instr) (rest : List Byte) (t : State), Fetches s →
    decode [s.busRead s.pc, s.busRead (s.pc + 1), s.busRead (s.pc + 2)] = .ok (i, rest) →
    let fetched : State := { s with pc := s.pc + BitVec.ofNat 16 (encode i).length }
    let n := cycleCost config.cycleTable i fetched
    exec i fetched = .next t →
      ((∀ op, i ≠ .illegal op) → step s = .next { t with cycles := s.cycles + n, budget := s.budget - n }) ∧
      (∀ op, i = .illegal op →
        step s = .fault (.illegalOpcode (some ⟨op, s.pc, s.cycles⟩) { s with halted := true, faultInfo := some ⟨op, s.pc, s.cycles⟩ }))

/-- O6. For every instruction and every state exec answers a next state; it leaves cycles, budget, the pending NMI and the reset bit alone, and halted and fault_info too unless the instruction is the illegal opcode, which sets halted. That exec answers a next state for the illegal opcode too, which step then turns into the fault, is the model's choice (log entry 3, DESIGN CHOICE). -/
def Obligations.EveryInstructionCompletes : Prop :=
  ∀ (i : Instr) (s : State), ∃ t, exec i s = .next t ∧
    t.cycles = s.cycles ∧ t.budget = s.budget ∧ t.nmiPending = s.nmiPending ∧ t.resetDone = s.resetDone ∧
    ((∀ op, i ≠ .illegal op) → t.halted = s.halted ∧ t.faultInfo = s.faultInfo) ∧ (∀ op, i = .illegal op → t.halted = true)

/-- O7. In every state after the first reset: step is never refused; a step that faults is one of a halted CPU, or of a CPU with no NMI pending whose byte at PC is one of the 105 illegal ones; in all other cases step answers a next state. The spec says that no other exception exists (R233), that a halted CPU returns its fault again (R234, D12; as an answer of step: log entry 3) and, as derived, that the NMI goes first (R239); that a step is refused only before the first reset, a bit of the model's own, is log entry 5. Which bytes are illegal is D1 and D2 (log entry 2, PRESUMED). -/
def Obligations.OnlyIllegalOpcodesStopAStep : Prop :=
  ∀ s : State, s.resetDone = true →
    (∀ r, step s ≠ .refused r) ∧
    ((∃ f, step s = .fault f) ↔ s.halted = true ∨ (s.nmiPending = false ∧ s.busRead s.pc ∈ listedIllegal))

/-- O8. For every address a, Mirror(a) is a mod 2048 up to 0x1FFF, 0x2000 + a mod 8 up to 0x3FFF, and a from 0x4000; and Mirror is idempotent. -/
def Obligations.MirrorFollowsTheTable : Prop :=
  ∀ a : Addr,
    (a.toNat ≤ 0x1FFF → (mirror a).toNat = a.toNat % 2048) ∧
    (0x2000 ≤ a.toNat ∧ a.toNat ≤ 0x3FFF → (mirror a).toNat = 0x2000 + a.toNat % 8) ∧
    (0x4000 ≤ a.toNat → mirror a = a) ∧ mirror (mirror a) = mirror a

/-- O9. After MemWrite(a, 1, v), MemRead(b, 1) is v when a and b are aliases (both in RAM and equal mod 2048, both in the register window and equal mod 8, or equal), and otherwise what it was. The raw bytes at non-canonical indexes stay. A write to RAM changes memory only. R44 states the aliases of RAM; that every write to the register window is stored is the spec's decision D17 (log entry 14, PRESUMED), that addresses from 0x8000 on are writable D24 (log entry 15, PRESUMED), and the bytes at non-canonical indexes are R31. -/
def Obligations.AliasedAddressesHoldOneByte : Prop :=
  ∀ (s : State) (a b : Addr) (v : Byte),
    ((a = b ∨ (a.toNat ≤ 0x1FFF ∧ b.toNat ≤ 0x1FFF ∧ a.toNat % 2048 = b.toNat % 2048) ∨
        (0x2000 ≤ a.toNat ∧ a.toNat ≤ 0x3FFF ∧ 0x2000 ≤ b.toNat ∧ b.toNat ≤ 0x3FFF ∧ a.toNat % 8 = b.toNat % 8)) →
      (s.busWrite a v).busRead b = v) ∧
    (¬(a = b ∨ (a.toNat ≤ 0x1FFF ∧ b.toNat ≤ 0x1FFF ∧ a.toNat % 2048 = b.toNat % 2048) ∨
        (0x2000 ≤ a.toNat ∧ a.toNat ≤ 0x3FFF ∧ 0x2000 ≤ b.toNat ∧ b.toNat ≤ 0x3FFF ∧ a.toNat % 8 = b.toNat % 8)) →
      (s.busWrite a v).busRead b = s.busRead b) ∧
    (mirror b ≠ b → (s.busWrite a v).rawRead b = s.rawRead b) ∧
    (a.toNat ≤ 0x1FFF → s.busWrite a v = { s with mem := (s.busWrite a v).mem })

/-- O10. A bus write of v: at 0x2000 PPUCTRL becomes v; at 0x2001 PPUMASK; at 0x2005 PPUSCROLL_X then _Y and at 0x2006 the high then the low half of PPUADDR, by the one shared latch, which toggles; at 0x2007 PPUADDR grows by 1 or 32 (PPUCTRL bit 2); PPUADDR is kept modulo 0x4000; at every other canonical address the records stay. The byte is always stored too. The addresses (D16), the store into MEM (D17), which half comes first (D18), the increment on a write to 0x2007 (D20), bit 2 of PPUCTRL (D21) and the mask after every half (D31) are decisions of the spec (log entry 14, PRESUMED), not the source. -/
def Obligations.RegisterWindowWrites : Prop :=
  ∀ (s : State) (a : Addr) (v : Byte),
    let p := s.ppu
    let q := (s.busWrite a v).ppu
    let c := (mirror a).toNat
    (s.busWrite a v).rawRead (mirror a) = v ∧
    (c = 0x2000 → q = { p with ctrl := v }) ∧
    (c = 0x2001 → q = { p with mask := v }) ∧
    (c = 0x2005 → p.w = false → q = { p with scrollX := v, w := true }) ∧
    (c = 0x2005 → p.w = true → q = { p with scrollY := v, w := false }) ∧
    (c = 0x2006 → p.w = false → q = { p with addr := BitVec.ofNat 16 ((256 * v.toNat + p.addr.toNat % 256) % 0x4000), w := true }) ∧
    (c = 0x2006 → p.w = true → q = { p with addr := BitVec.ofNat 16 ((256 * (p.addr.toNat / 256) + v.toNat) % 0x4000), w := false }) ∧
    (c = 0x2007 → q = { p with addr := BitVec.ofNat 16 ((p.addr.toNat + if p.ctrl.toNat / 4 % 2 = 1 then 32 else 1) % 0x4000) }) ∧
    (c < 0x2000 ∨ c = 0x2002 ∨ c = 0x2003 ∨ c = 0x2004 ∨ 0x2008 ≤ c → q = p)

/-- O11. MemReadZP16(z) takes its high byte from zero-page address (z+1) mod 256; MemReadPageWrap16(a) from the same page at (a mod 256 + 1) mod 256; the plain 16-bit read from (a+1) mod 65536; the low byte comes from the address itself, and the zero-page form serves (zp,X) and (zp),Y, the page-wrapping form JMP (indirect). The wrap of the plain read at 0xFFFF is the spec's decision D25 (log entry 15, PRESUMED). -/
def Obligations.SixteenBitReadsWrapAsTheirRulesSay : Prop :=
  ∀ (s : State) (z : Byte) (a : Addr),
    s.readZeroPage16 z = wordOf (s.busRead (BitVec.ofNat 16 ((z.toNat + 1) % 256))) (s.busRead (BitVec.ofNat 16 z.toNat)) ∧
    s.readPageWrap16 a =
      wordOf (s.busRead (BitVec.ofNat 16 (256 * (a.toNat / 256) + (a.toNat % 256 + 1) % 256))) (s.busRead a) ∧
    (a.toNat % 256 ≠ 255 → s.readPageWrap16 a = s.busRead16 a) ∧
    s.busRead16 a = wordOf (s.busRead (BitVec.ofNat 16 ((a.toNat + 1) % 65536))) (s.busRead a) ∧
    MemOperand.base (.indx z) s = s.readZeroPage16 (z + s.x) ∧ MemOperand.base (.indy z) s = s.readZeroPage16 z ∧
    exec (.jmpInd a) s = .next { s with pc := s.readPageWrap16 a }

/-- O12. For every operand and state: the zero-page modes give addresses below 256, indexing modulo 256; the absolute modes index modulo 65536; (zp,X) adds X in the zero page and reads its pointer there; (zp),Y reads the pointer and adds Y modulo 65536; crossed is set exactly when the 16-bit indexing changes the high byte, and never in the other modes. The operand bytes are fetched as the format says: one for the zero-page and indirect modes, two for the absolute ones; only LDX and STX use zero page,Y. -/
def Obligations.EffectiveAddresses : Prop :=
  ∀ (s : State) (z : Byte) (a : Addr),
    let pointer (p : Nat) : Addr := wordOf (s.busRead (BitVec.ofNat 16 ((p + 1) % 256))) (s.busRead (BitVec.ofNat 16 p))
    let indexed (b : Addr) (r : Byte) : Addr := BitVec.ofNat 16 ((b.toNat + r.toNat) % 65536)
    let crosses (b : Addr) (r : Byte) : Bool := decide ((b.toNat + r.toNat) % 65536 / 256 ≠ b.toNat / 256)
    (MemOperand.ea (.zp z) s = BitVec.ofNat 16 z.toNat ∧ MemOperand.crossed (.zp z) s = false) ∧
    (MemOperand.ea (.zpx z) s = BitVec.ofNat 16 ((z.toNat + s.x.toNat) % 256) ∧ MemOperand.crossed (.zpx z) s = false) ∧
    (MemOperand.ea (.zpy z) s = BitVec.ofNat 16 ((z.toNat + s.y.toNat) % 256) ∧ MemOperand.crossed (.zpy z) s = false) ∧
    (MemOperand.ea (.abs a) s = a ∧ MemOperand.crossed (.abs a) s = false) ∧
    (MemOperand.ea (.absx a) s = indexed a s.x ∧ MemOperand.crossed (.absx a) s = crosses a s.x) ∧
    (MemOperand.ea (.absy a) s = indexed a s.y ∧ MemOperand.crossed (.absy a) s = crosses a s.y) ∧
    (MemOperand.ea (.indx z) s = pointer ((z.toNat + s.x.toNat) % 256) ∧ MemOperand.crossed (.indx z) s = false) ∧
    (MemOperand.ea (.indy z) s = indexed (pointer z.toNat) s.y ∧ MemOperand.crossed (.indy z) s = crosses (pointer z.toNat) s.y) ∧
    (Operand.bytes (.mem (.zp z)) = [z] ∧ Operand.bytes (.mem (.zpx z)) = [z] ∧ Operand.bytes (.mem (.zpy z)) = [z] ∧
      Operand.bytes (.mem (.indx z)) = [z] ∧ Operand.bytes (.mem (.indy z)) = [z] ∧ Operand.bytes (.mem (.abs a)) = wordBytes a ∧
      Operand.bytes (.mem (.absx a)) = wordBytes a ∧ Operand.bytes (.mem (.absy a)) = wordBytes a) ∧
    ∀ i : Instr, i.operand = .mem (.zpy z) → i = .ldxZpy z ∨ i = .stxZpy z

/-- O13. Each form of LDA is encoded as listed and completes with A the operand byte (the immediate, or the byte read at the effective address), Z and N from it, every other register, flag and byte as before. The opcode bytes and the modes other than immediate are general knowledge of the spec (D1, log entry 2, PRESUMED); that a read has no side effect is its decision D19 (log entry 14, PRESUMED). -/
def Obligations.LdaLoadsTheOperand : Prop :=
  ∀ (s : State) (v : Byte) (zp : Byte) (addr : Addr),
    let result (m : Byte) : State := { s with a := m, flags := zn m s.flags }
    Does (.ldaImm v) [0xA9, v] s (result v) ∧
    Does (.ldaZp zp) [0xA5, zp] s (result (s.busRead (MemOperand.ea (.zp zp) s))) ∧
    Does (.ldaZpx zp) [0xB5, zp] s (result (s.busRead (MemOperand.ea (.zpx zp) s))) ∧
    Does (.ldaAbs addr) (0xAD :: wordBytes addr) s (result (s.busRead (MemOperand.ea (.abs addr) s))) ∧
    Does (.ldaAbsx addr) (0xBD :: wordBytes addr) s (result (s.busRead (MemOperand.ea (.absx addr) s))) ∧
    Does (.ldaAbsy addr) (0xB9 :: wordBytes addr) s (result (s.busRead (MemOperand.ea (.absy addr) s))) ∧
    Does (.ldaIndx zp) [0xA1, zp] s (result (s.busRead (MemOperand.ea (.indx zp) s))) ∧
    Does (.ldaIndy zp) [0xB1, zp] s (result (s.busRead (MemOperand.ea (.indy zp) s)))

/-- O14. Each form of LDX (zero page indexed by Y) and LDY (indexed by X) is encoded as listed and completes with the register the operand byte, Z and N from it, nothing else changed. Both instructions are general knowledge of the spec (D1, log entry 2, PRESUMED); that a read has no side effect is its decision D19 (log entry 14, PRESUMED). -/
def Obligations.LdxAndLdyLoadTheOperand : Prop :=
  ∀ (s : State) (v : Byte) (zp : Byte) (addr : Addr),
    let resultX (m : Byte) : State := { s with x := m, flags := zn m s.flags }
    let resultY (m : Byte) : State := { s with y := m, flags := zn m s.flags }
    Does (.ldxImm v) [0xA2, v] s (resultX v) ∧
    Does (.ldxZp zp) [0xA6, zp] s (resultX (s.busRead (MemOperand.ea (.zp zp) s))) ∧
    Does (.ldxZpy zp) [0xB6, zp] s (resultX (s.busRead (MemOperand.ea (.zpy zp) s))) ∧
    Does (.ldxAbs addr) (0xAE :: wordBytes addr) s (resultX (s.busRead (MemOperand.ea (.abs addr) s))) ∧
    Does (.ldxAbsy addr) (0xBE :: wordBytes addr) s (resultX (s.busRead (MemOperand.ea (.absy addr) s))) ∧
    Does (.ldyImm v) [0xA0, v] s (resultY v) ∧
    Does (.ldyZp zp) [0xA4, zp] s (resultY (s.busRead (MemOperand.ea (.zp zp) s))) ∧
    Does (.ldyZpx zp) [0xB4, zp] s (resultY (s.busRead (MemOperand.ea (.zpx zp) s))) ∧
    Does (.ldyAbs addr) (0xAC :: wordBytes addr) s (resultY (s.busRead (MemOperand.ea (.abs addr) s))) ∧
    Does (.ldyAbsx addr) (0xBC :: wordBytes addr) s (resultY (s.busRead (MemOperand.ea (.absx addr) s)))

/-- O15. Each form of STA is encoded as listed and completes: the byte at the canonical effective address becomes A, the PPU records take the side effect of that bus write, every other byte of memory and everything else is unchanged. The instruction is general knowledge of the spec (D1, log entry 2, PRESUMED); what the write does, stored at every address and with its effect on the PPU records, follows its decisions D16 to D18, D20, D21, D24 and D31 (log entries 14, 15, PRESUMED), and that there is one write and no other access is D23 (log entry 19, PRESUMED). -/
def Obligations.StaStoresAtItsAddress : Prop :=
  ∀ (s : State) (zp : Byte) (addr : Addr),
    Stores (.staZp zp) [0x85, zp] s (MemOperand.ea (.zp zp) s) s.a s.flags ∧
    Stores (.staZpx zp) [0x95, zp] s (MemOperand.ea (.zpx zp) s) s.a s.flags ∧
    Stores (.staAbs addr) (0x8D :: wordBytes addr) s (MemOperand.ea (.abs addr) s) s.a s.flags ∧
    Stores (.staAbsx addr) (0x9D :: wordBytes addr) s (MemOperand.ea (.absx addr) s) s.a s.flags ∧
    Stores (.staAbsy addr) (0x99 :: wordBytes addr) s (MemOperand.ea (.absy addr) s) s.a s.flags ∧
    Stores (.staIndx zp) [0x81, zp] s (MemOperand.ea (.indx zp) s) s.a s.flags ∧
    Stores (.staIndy zp) [0x91, zp] s (MemOperand.ea (.indy zp) s) s.a s.flags

/-- O16. Each form of STX and STY is encoded as listed and completes: the byte at the canonical effective address becomes the register, the PPU records take the side effect of that bus write, nothing else is changed. Both instructions are general knowledge of the spec (D1, log entry 2, PRESUMED); what the write does, stored at every address and with its effect on the PPU records, follows its decisions D16 to D18, D20, D21, D24 and D31 (log entries 14, 15, PRESUMED), and that there is one write and no other access is D23 (log entry 19, PRESUMED). -/
def Obligations.StxAndStyStoreAtTheirAddress : Prop :=
  ∀ (s : State) (zp : Byte) (addr : Addr),
    Stores (.stxZp zp) [0x86, zp] s (MemOperand.ea (.zp zp) s) s.x s.flags ∧
    Stores (.stxZpy zp) [0x96, zp] s (MemOperand.ea (.zpy zp) s) s.x s.flags ∧
    Stores (.stxAbs addr) (0x8E :: wordBytes addr) s (MemOperand.ea (.abs addr) s) s.x s.flags ∧
    Stores (.styZp zp) [0x84, zp] s (MemOperand.ea (.zp zp) s) s.y s.flags ∧
    Stores (.styZpx zp) [0x94, zp] s (MemOperand.ea (.zpx zp) s) s.y s.flags ∧
    Stores (.styAbs addr) (0x8C :: wordBytes addr) s (MemOperand.ea (.abs addr) s) s.y s.flags

/-- O17. Each transfer is encoded as listed and completes with the destination equal to the source; Z and N follow it but for TXS; nothing else changes. The instructions are general knowledge of the spec (D1, log entry 2, PRESUMED); that S is the raw 8-bit offset is D3 (log entry 2). -/
def Obligations.TransfersCopyARegister : Prop :=
  ∀ s : State,
    Does .tax [0xAA] s { s with x := s.a, flags := zn s.a s.flags } ∧
    Does .tay [0xA8] s { s with y := s.a, flags := zn s.a s.flags } ∧
    Does .txa [0x8A] s { s with a := s.x, flags := zn s.x s.flags } ∧
    Does .tya [0x98] s { s with a := s.y, flags := zn s.y s.flags } ∧
    Does .tsx [0xBA] s { s with x := s.sp, flags := zn s.sp s.flags } ∧
    Does .txs [0x9A] s { s with sp := s.x }

/-- O18. Each form of ADC is encoded as listed and completes with A = (A + M + C) mod 256, C set iff the sum exceeds 255, V set iff A and M have the same bit 7 and the result another, Z and N from the result; B, D, I and everything else unchanged. R140 gives the formulas of C and V; the carry out, the carry input and the opcode bytes are general knowledge of the spec (D1, log entry 2, PRESUMED); that a read has no side effect is its decision D19 (log entry 14, PRESUMED). -/
def Obligations.AdcAddsWithCarry : Prop :=
  ∀ (s : State) (v : Byte) (zp : Byte) (addr : Addr),
    let result (m : Byte) : State :=
      let sum := s.a.toNat + m.toNat + carry s
      let r : Byte := BitVec.ofNat 8 (sum % 256)
      { s with a := r, flags := zn r { s.flags with c := decide (255 < sum), v := decide (s.a.msb = m.msb ∧ r.msb ≠ s.a.msb) } }
    Does (.adcImm v) [0x69, v] s (result v) ∧
    Does (.adcZp zp) [0x65, zp] s (result (s.busRead (MemOperand.ea (.zp zp) s))) ∧
    Does (.adcZpx zp) [0x75, zp] s (result (s.busRead (MemOperand.ea (.zpx zp) s))) ∧
    Does (.adcAbs addr) (0x6D :: wordBytes addr) s (result (s.busRead (MemOperand.ea (.abs addr) s))) ∧
    Does (.adcAbsx addr) (0x7D :: wordBytes addr) s (result (s.busRead (MemOperand.ea (.absx addr) s))) ∧
    Does (.adcAbsy addr) (0x79 :: wordBytes addr) s (result (s.busRead (MemOperand.ea (.absy addr) s))) ∧
    Does (.adcIndx zp) [0x61, zp] s (result (s.busRead (MemOperand.ea (.indx zp) s))) ∧
    Does (.adcIndy zp) [0x71, zp] s (result (s.busRead (MemOperand.ea (.indy zp) s)))

/-- O19. Each form of SBC is encoded as listed and completes with A = (A - M - (1 - C)) mod 256, C set iff that difference is not negative in the integers, V by the sign rule on the complement of M, Z and N from the result; nothing else changes. ADC of M with carry-in c followed by SBC of M with carry-in 1 - c restores A (90_conflicts.md C1). The carry out and the carry input of R140, of which SBC is made, and the opcode bytes are general knowledge of the spec (D1, log entry 2, PRESUMED); that a read has no side effect is its decision D19 (log entry 14, PRESUMED). -/
def Obligations.SbcSubtractsWithBorrow : Prop :=
  (∀ (s : State) (v : Byte) (zp : Byte) (addr : Addr),
    let result (m : Byte) : State :=
      let diff : Int := s.a.toNat - m.toNat - (1 - carry s)
      let r : Byte := BitVec.ofInt 8 diff
      { s with a := r, flags := zn r { s.flags with c := decide (0 ≤ diff), v := decide (s.a.msb ≠ m.msb ∧ r.msb ≠ s.a.msb) } }
    Does (.sbcImm v) [0xE9, v] s (result v) ∧
    Does (.sbcZp zp) [0xE5, zp] s (result (s.busRead (MemOperand.ea (.zp zp) s))) ∧
    Does (.sbcZpx zp) [0xF5, zp] s (result (s.busRead (MemOperand.ea (.zpx zp) s))) ∧
    Does (.sbcAbs addr) (0xED :: wordBytes addr) s (result (s.busRead (MemOperand.ea (.abs addr) s))) ∧
    Does (.sbcAbsx addr) (0xFD :: wordBytes addr) s (result (s.busRead (MemOperand.ea (.absx addr) s))) ∧
    Does (.sbcAbsy addr) (0xF9 :: wordBytes addr) s (result (s.busRead (MemOperand.ea (.absy addr) s))) ∧
    Does (.sbcIndx zp) [0xE1, zp] s (result (s.busRead (MemOperand.ea (.indx zp) s))) ∧
    Does (.sbcIndy zp) [0xF1, zp] s (result (s.busRead (MemOperand.ea (.indy zp) s)))) ∧
  ∀ (s : State) (m : Byte) (c : Bool), ∃ t u,
    exec (.adcImm m) { s with flags := { s.flags with c := c } } = .next t ∧
    exec (.sbcImm m) { t with flags := { t.flags with c := !c } } = .next u ∧ u.a = s.a

/-- O20. After ADC with operand m, V is set iff A + m + C, read as signed 8-bit numbers, lies outside -128 to 127; after SBC iff A - m - (1 - C) does. That the carry flag is the carry input of both is general knowledge of the spec (D1, log entry 2, PRESUMED), which R140 marks. -/
def Obligations.OverflowIsSignedOverflow : Prop :=
  ∀ (s : State) (m : Byte), ∃ t u, exec (.adcImm m) s = .next t ∧ exec (.sbcImm m) s = .next u ∧
    (t.flags.v = true ↔ s.a.toInt + m.toInt + carry s < -128 ∨ 127 < s.a.toInt + m.toInt + carry s) ∧
    (u.flags.v = true ↔ s.a.toInt - m.toInt - (1 - carry s) < -128 ∨ 127 < s.a.toInt - m.toInt - (1 - carry s))

/-- O21. For every form of ADC and SBC, running it with D set to any value gives the same state but for that value of D; SED sets D and CLD clears it. R141 states that the arithmetic never reads D; the instructions SED and CLD, and the opcode bytes by which the statement names the forms, are general knowledge of the spec (D1, log entry 2, PRESUMED). -/
def Obligations.DecimalModeDoesNothing : Prop :=
  (∀ (i : Instr) (s t : State) (d : Bool),
      i.opcode ∈ ([0x69, 0x65, 0x75, 0x6D, 0x7D, 0x79, 0x61, 0x71, 0xE9, 0xE5, 0xF5, 0xED, 0xFD, 0xF9, 0xE1, 0xF1] : List Byte) →
      exec i s = .next t → exec i { s with flags := { s.flags with d := d } } = .next { t with flags := { t.flags with d := d } }) ∧
  ∀ s : State, exec .sed s = .next { s with flags := { s.flags with d := true } } ∧
    exec .cld s = .next { s with flags := { s.flags with d := false } }

/-- O22. Each form is encoded as listed and completes with A the and, or, exclusive or of A and the operand byte, Z and N from the result; C, V and everything else unchanged. The instructions are general knowledge of the spec (D1, log entry 2, PRESUMED); that a read has no side effect is its decision D19 (log entry 14, PRESUMED). -/
def Obligations.LogicCombinesBitwise : Prop :=
  ∀ (s : State) (v : Byte) (zp : Byte) (addr : Addr),
    let result (r : Byte) : State := { s with a := r, flags := zn r s.flags }
    let andResult (m : Byte) : State := result (s.a &&& m)
    let orResult (m : Byte) : State := result (s.a ||| m)
    let eorResult (m : Byte) : State := result (s.a ^^^ m)
    Does (.andImm v) [0x29, v] s (andResult v) ∧
    Does (.andZp zp) [0x25, zp] s (andResult (s.busRead (MemOperand.ea (.zp zp) s))) ∧
    Does (.andZpx zp) [0x35, zp] s (andResult (s.busRead (MemOperand.ea (.zpx zp) s))) ∧
    Does (.andAbs addr) (0x2D :: wordBytes addr) s (andResult (s.busRead (MemOperand.ea (.abs addr) s))) ∧
    Does (.andAbsx addr) (0x3D :: wordBytes addr) s (andResult (s.busRead (MemOperand.ea (.absx addr) s))) ∧
    Does (.andAbsy addr) (0x39 :: wordBytes addr) s (andResult (s.busRead (MemOperand.ea (.absy addr) s))) ∧
    Does (.andIndx zp) [0x21, zp] s (andResult (s.busRead (MemOperand.ea (.indx zp) s))) ∧
    Does (.andIndy zp) [0x31, zp] s (andResult (s.busRead (MemOperand.ea (.indy zp) s))) ∧
    Does (.oraImm v) [0x09, v] s (orResult v) ∧
    Does (.oraZp zp) [0x05, zp] s (orResult (s.busRead (MemOperand.ea (.zp zp) s))) ∧
    Does (.oraZpx zp) [0x15, zp] s (orResult (s.busRead (MemOperand.ea (.zpx zp) s))) ∧
    Does (.oraAbs addr) (0x0D :: wordBytes addr) s (orResult (s.busRead (MemOperand.ea (.abs addr) s))) ∧
    Does (.oraAbsx addr) (0x1D :: wordBytes addr) s (orResult (s.busRead (MemOperand.ea (.absx addr) s))) ∧
    Does (.oraAbsy addr) (0x19 :: wordBytes addr) s (orResult (s.busRead (MemOperand.ea (.absy addr) s))) ∧
    Does (.oraIndx zp) [0x01, zp] s (orResult (s.busRead (MemOperand.ea (.indx zp) s))) ∧
    Does (.oraIndy zp) [0x11, zp] s (orResult (s.busRead (MemOperand.ea (.indy zp) s))) ∧
    Does (.eorImm v) [0x49, v] s (eorResult v) ∧
    Does (.eorZp zp) [0x45, zp] s (eorResult (s.busRead (MemOperand.ea (.zp zp) s))) ∧
    Does (.eorZpx zp) [0x55, zp] s (eorResult (s.busRead (MemOperand.ea (.zpx zp) s))) ∧
    Does (.eorAbs addr) (0x4D :: wordBytes addr) s (eorResult (s.busRead (MemOperand.ea (.abs addr) s))) ∧
    Does (.eorAbsx addr) (0x5D :: wordBytes addr) s (eorResult (s.busRead (MemOperand.ea (.absx addr) s))) ∧
    Does (.eorAbsy addr) (0x59 :: wordBytes addr) s (eorResult (s.busRead (MemOperand.ea (.absy addr) s))) ∧
    Does (.eorIndx zp) [0x41, zp] s (eorResult (s.busRead (MemOperand.ea (.indx zp) s))) ∧
    Does (.eorIndy zp) [0x51, zp] s (eorResult (s.busRead (MemOperand.ea (.indy zp) s)))

/-- O23. Each form is encoded as listed and completes with C set iff the register is at least the operand (unsigned), Z iff they are equal, N bit 7 of the difference modulo 256; the register, V and everything else unchanged. The opcode bytes are general knowledge of the spec (D1, log entry 2, PRESUMED); that a read has no side effect is its decision D19 (log entry 14, PRESUMED). -/
def Obligations.ComparesSetTheFlags : Prop :=
  ∀ (s : State) (v : Byte) (zp : Byte) (addr : Addr),
    let result (r m : Byte) : State :=
      { s with flags := { s.flags with
          c := decide (m.toNat ≤ r.toNat), z := decide (r = m), n := decide (128 ≤ (r.toNat + 256 - m.toNat) % 256) } }
    let cmpResult := result s.a
    let cpxResult := result s.x
    let cpyResult := result s.y
    Does (.cmpImm v) [0xC9, v] s (cmpResult v) ∧
    Does (.cmpZp zp) [0xC5, zp] s (cmpResult (s.busRead (MemOperand.ea (.zp zp) s))) ∧
    Does (.cmpZpx zp) [0xD5, zp] s (cmpResult (s.busRead (MemOperand.ea (.zpx zp) s))) ∧
    Does (.cmpAbs addr) (0xCD :: wordBytes addr) s (cmpResult (s.busRead (MemOperand.ea (.abs addr) s))) ∧
    Does (.cmpAbsx addr) (0xDD :: wordBytes addr) s (cmpResult (s.busRead (MemOperand.ea (.absx addr) s))) ∧
    Does (.cmpAbsy addr) (0xD9 :: wordBytes addr) s (cmpResult (s.busRead (MemOperand.ea (.absy addr) s))) ∧
    Does (.cmpIndx zp) [0xC1, zp] s (cmpResult (s.busRead (MemOperand.ea (.indx zp) s))) ∧
    Does (.cmpIndy zp) [0xD1, zp] s (cmpResult (s.busRead (MemOperand.ea (.indy zp) s))) ∧
    Does (.cpxImm v) [0xE0, v] s (cpxResult v) ∧
    Does (.cpxZp zp) [0xE4, zp] s (cpxResult (s.busRead (MemOperand.ea (.zp zp) s))) ∧
    Does (.cpxAbs addr) (0xEC :: wordBytes addr) s (cpxResult (s.busRead (MemOperand.ea (.abs addr) s))) ∧
    Does (.cpyImm v) [0xC0, v] s (cpyResult v) ∧
    Does (.cpyZp zp) [0xC4, zp] s (cpyResult (s.busRead (MemOperand.ea (.zp zp) s))) ∧
    Does (.cpyAbs addr) (0xCC :: wordBytes addr) s (cpyResult (s.busRead (MemOperand.ea (.abs addr) s)))

/-- O24. Each form is encoded as listed and completes with Z set iff A & M is 0, N bit 7 and V bit 6 of M; A, C, memory and everything else unchanged. The opcode bytes 24 and 2C are general knowledge of the spec (D1, log entry 2, PRESUMED); that a read has no side effect is its decision D19 (log entry 14, PRESUMED). -/
def Obligations.BitTestsTheOperand : Prop :=
  ∀ (s : State) (zp : Byte) (addr : Addr),
    let result (m : Byte) : State :=
      { s with flags := { s.flags with
          z := decide ((s.a &&& m).toNat = 0), n := decide (m.toNat / 128 % 2 = 1), v := decide (m.toNat / 64 % 2 = 1) } }
    Does (.bitZp zp) [0x24, zp] s (result (s.busRead (MemOperand.ea (.zp zp) s))) ∧
    Does (.bitAbs addr) (0x2C :: wordBytes addr) s (result (s.busRead (MemOperand.ea (.abs addr) s)))

/-- O25. Each form is encoded as listed and completes: the byte read at the effective address, plus or minus one modulo 256, is written there once with the PPU side effect of that write, Z and N follow it; C, V, the registers and every other byte are unchanged. Both instructions are general knowledge of the spec (D1, log entry 2, PRESUMED); that the byte is read once and written once, with one PPU side effect, is the spec's decision D23 (log entry 19, PRESUMED); what the write does, stored at every address and with its effect on the PPU records, follows its decisions D16 to D18, D20, D21, D24 and D31 (log entries 14, 15, PRESUMED). -/
def Obligations.IncAndDecCountInMemory : Prop :=
  ∀ (s : State) (zp : Byte) (addr : Addr),
    let inc (m : Byte) : Byte := BitVec.ofNat 8 ((m.toNat + 1) % 256)
    let dec (m : Byte) : Byte := BitVec.ofNat 8 ((m.toNat + 255) % 256)
    let incFlags (m : Byte) : Flags := zn (inc m) s.flags
    let decFlags (m : Byte) : Flags := zn (dec m) s.flags
    Stores (.incZp zp) [0xE6, zp] s (MemOperand.ea (.zp zp) s) (inc (s.busRead (MemOperand.ea (.zp zp) s))) (incFlags (s.busRead (MemOperand.ea (.zp zp) s))) ∧
    Stores (.incZpx zp) [0xF6, zp] s (MemOperand.ea (.zpx zp) s) (inc (s.busRead (MemOperand.ea (.zpx zp) s))) (incFlags (s.busRead (MemOperand.ea (.zpx zp) s))) ∧
    Stores (.incAbs addr) (0xEE :: wordBytes addr) s (MemOperand.ea (.abs addr) s) (inc (s.busRead (MemOperand.ea (.abs addr) s))) (incFlags (s.busRead (MemOperand.ea (.abs addr) s))) ∧
    Stores (.incAbsx addr) (0xFE :: wordBytes addr) s (MemOperand.ea (.absx addr) s) (inc (s.busRead (MemOperand.ea (.absx addr) s))) (incFlags (s.busRead (MemOperand.ea (.absx addr) s))) ∧
    Stores (.decZp zp) [0xC6, zp] s (MemOperand.ea (.zp zp) s) (dec (s.busRead (MemOperand.ea (.zp zp) s))) (decFlags (s.busRead (MemOperand.ea (.zp zp) s))) ∧
    Stores (.decZpx zp) [0xD6, zp] s (MemOperand.ea (.zpx zp) s) (dec (s.busRead (MemOperand.ea (.zpx zp) s))) (decFlags (s.busRead (MemOperand.ea (.zpx zp) s))) ∧
    Stores (.decAbs addr) (0xCE :: wordBytes addr) s (MemOperand.ea (.abs addr) s) (dec (s.busRead (MemOperand.ea (.abs addr) s))) (decFlags (s.busRead (MemOperand.ea (.abs addr) s))) ∧
    Stores (.decAbsx addr) (0xDE :: wordBytes addr) s (MemOperand.ea (.absx addr) s) (dec (s.busRead (MemOperand.ea (.absx addr) s))) (decFlags (s.busRead (MemOperand.ea (.absx addr) s)))

/-- O26. Each is encoded as listed and completes with the register one higher or lower modulo 256, Z and N from it; C, V and everything else unchanged. The instructions are general knowledge of the spec (D1, log entry 2, PRESUMED). -/
def Obligations.IndexRegistersCount : Prop :=
  ∀ s : State,
    let inc (m : Byte) : Byte := BitVec.ofNat 8 ((m.toNat + 1) % 256)
    let dec (m : Byte) : Byte := BitVec.ofNat 8 ((m.toNat + 255) % 256)
    Does .inx [0xE8] s { s with x := inc s.x, flags := zn (inc s.x) s.flags } ∧
    Does .iny [0xC8] s { s with y := inc s.y, flags := zn (inc s.y) s.flags } ∧
    Does .dex [0xCA] s { s with x := dec s.x, flags := zn (dec s.x) s.flags } ∧
    Does .dey [0x88] s { s with y := dec s.y, flags := zn (dec s.y) s.flags }

/-- O27. Each form is encoded as listed and completes: ASL gives 2M mod 256 with C bit 7 of M, LSR gives M div 2 with C bit 0 of M; Z and N from the result; the result goes to A in the accumulator form, else to the byte at the effective address (read once, written once, with the side effect of that write), A unchanged then; V and everything else unchanged. The direction, the distance of one bit, the accumulator form and the opcode bytes are general knowledge of the spec (D1, log entry 2, PRESUMED), and one read and one write is its decision D23 (log entry 19, PRESUMED). What the write does, stored at every address and with its effect on the PPU records, follows its decisions D16 to D18, D20, D21, D24 and D31 (log entries 14, 15, PRESUMED). -/
def Obligations.ShiftsMoveTheOutgoingBitToC : Prop :=
  ∀ (s : State) (zp : Byte) (addr : Addr),
    let asl (m : Byte) : Byte := BitVec.ofNat 8 (2 * m.toNat % 256)
    let lsr (m : Byte) : Byte := BitVec.ofNat 8 (m.toNat / 2)
    let aslFlags (m : Byte) : Flags := zn (asl m) { s.flags with c := decide (128 ≤ m.toNat) }
    let lsrFlags (m : Byte) : Flags := zn (lsr m) { s.flags with c := decide (m.toNat % 2 = 1) }
    Does .aslAcc [0x0A] s { s with a := asl s.a, flags := aslFlags s.a } ∧
    Stores (.aslZp zp) [0x06, zp] s (MemOperand.ea (.zp zp) s) (asl (s.busRead (MemOperand.ea (.zp zp) s))) (aslFlags (s.busRead (MemOperand.ea (.zp zp) s))) ∧
    Stores (.aslZpx zp) [0x16, zp] s (MemOperand.ea (.zpx zp) s) (asl (s.busRead (MemOperand.ea (.zpx zp) s))) (aslFlags (s.busRead (MemOperand.ea (.zpx zp) s))) ∧
    Stores (.aslAbs addr) (0x0E :: wordBytes addr) s (MemOperand.ea (.abs addr) s) (asl (s.busRead (MemOperand.ea (.abs addr) s))) (aslFlags (s.busRead (MemOperand.ea (.abs addr) s))) ∧
    Stores (.aslAbsx addr) (0x1E :: wordBytes addr) s (MemOperand.ea (.absx addr) s) (asl (s.busRead (MemOperand.ea (.absx addr) s))) (aslFlags (s.busRead (MemOperand.ea (.absx addr) s))) ∧
    Does .lsrAcc [0x4A] s { s with a := lsr s.a, flags := lsrFlags s.a } ∧
    Stores (.lsrZp zp) [0x46, zp] s (MemOperand.ea (.zp zp) s) (lsr (s.busRead (MemOperand.ea (.zp zp) s))) (lsrFlags (s.busRead (MemOperand.ea (.zp zp) s))) ∧
    Stores (.lsrZpx zp) [0x56, zp] s (MemOperand.ea (.zpx zp) s) (lsr (s.busRead (MemOperand.ea (.zpx zp) s))) (lsrFlags (s.busRead (MemOperand.ea (.zpx zp) s))) ∧
    Stores (.lsrAbs addr) (0x4E :: wordBytes addr) s (MemOperand.ea (.abs addr) s) (lsr (s.busRead (MemOperand.ea (.abs addr) s))) (lsrFlags (s.busRead (MemOperand.ea (.abs addr) s))) ∧
    Stores (.lsrAbsx addr) (0x5E :: wordBytes addr) s (MemOperand.ea (.absx addr) s) (lsr (s.busRead (MemOperand.ea (.absx addr) s))) (lsrFlags (s.busRead (MemOperand.ea (.absx addr) s)))

/-- O28. Each form is encoded as listed and completes: ROL gives (2M + C) mod 256 with C bit 7 of M, ROR gives M div 2 + 128 C with C bit 0 of M; Z and N from the result; the result goes to A or to the byte at the effective address; V and everything else unchanged. Nine ROLs of A restore A and C. The direction, the distance of one bit, the accumulator form and the opcode bytes are general knowledge of the spec (D1, log entry 2, PRESUMED), and one read and one write is its decision D23 (log entry 19, PRESUMED). What the write does, stored at every address and with its effect on the PPU records, follows its decisions D16 to D18, D20, D21, D24 and D31 (log entries 14, 15, PRESUMED). -/
def Obligations.RotatesGoThroughC : Prop :=
  (∀ (s : State) (zp : Byte) (addr : Addr),
    let rol (m : Byte) : Byte := BitVec.ofNat 8 ((2 * m.toNat + carry s) % 256)
    let ror (m : Byte) : Byte := BitVec.ofNat 8 (m.toNat / 2 + 128 * carry s)
    let rolFlags (m : Byte) : Flags := zn (rol m) { s.flags with c := decide (128 ≤ m.toNat) }
    let rorFlags (m : Byte) : Flags := zn (ror m) { s.flags with c := decide (m.toNat % 2 = 1) }
    Does .rolAcc [0x2A] s { s with a := rol s.a, flags := rolFlags s.a } ∧
    Stores (.rolZp zp) [0x26, zp] s (MemOperand.ea (.zp zp) s) (rol (s.busRead (MemOperand.ea (.zp zp) s))) (rolFlags (s.busRead (MemOperand.ea (.zp zp) s))) ∧
    Stores (.rolZpx zp) [0x36, zp] s (MemOperand.ea (.zpx zp) s) (rol (s.busRead (MemOperand.ea (.zpx zp) s))) (rolFlags (s.busRead (MemOperand.ea (.zpx zp) s))) ∧
    Stores (.rolAbs addr) (0x2E :: wordBytes addr) s (MemOperand.ea (.abs addr) s) (rol (s.busRead (MemOperand.ea (.abs addr) s))) (rolFlags (s.busRead (MemOperand.ea (.abs addr) s))) ∧
    Stores (.rolAbsx addr) (0x3E :: wordBytes addr) s (MemOperand.ea (.absx addr) s) (rol (s.busRead (MemOperand.ea (.absx addr) s))) (rolFlags (s.busRead (MemOperand.ea (.absx addr) s))) ∧
    Does .rorAcc [0x6A] s { s with a := ror s.a, flags := rorFlags s.a } ∧
    Stores (.rorZp zp) [0x66, zp] s (MemOperand.ea (.zp zp) s) (ror (s.busRead (MemOperand.ea (.zp zp) s))) (rorFlags (s.busRead (MemOperand.ea (.zp zp) s))) ∧
    Stores (.rorZpx zp) [0x76, zp] s (MemOperand.ea (.zpx zp) s) (ror (s.busRead (MemOperand.ea (.zpx zp) s))) (rorFlags (s.busRead (MemOperand.ea (.zpx zp) s))) ∧
    Stores (.rorAbs addr) (0x6E :: wordBytes addr) s (MemOperand.ea (.abs addr) s) (ror (s.busRead (MemOperand.ea (.abs addr) s))) (rorFlags (s.busRead (MemOperand.ea (.abs addr) s))) ∧
    Stores (.rorAbsx addr) (0x7E :: wordBytes addr) s (MemOperand.ea (.absx addr) s) (ror (s.busRead (MemOperand.ea (.absx addr) s))) (rorFlags (s.busRead (MemOperand.ea (.absx addr) s)))) ∧
  ∀ s : State, ∃ t, execTimes .rolAcc 9 s = .next t ∧ t.a = s.a ∧ t.flags.c = s.flags.c

/-- O29. PHA and PHP are encoded as listed and complete: the byte at 0x0100 + S becomes A, or the status byte with bits 5 and 4 set whatever B; S is one lower modulo 256; no flag, no other byte and nothing else changes. Both instructions are general knowledge of the spec (D1, log entry 2, PRESUMED); that a push writes at 0x0100 + S and then lowers S is D3 (log entry 2), and the layout of the status byte with bits 5 and 4 set is D5 and D6 (log entry 11, PRESUMED). -/
def Obligations.PhaAndPhpPushOneByte : Prop :=
  ∀ s : State,
    let bit (f : Bool) (k : Nat) : Nat := if f then k else 0
    let status := bit s.flags.n 128 + bit s.flags.v 64 + 32 + 16 + bit s.flags.d 8 + bit s.flags.i 4 + bit s.flags.z 2 + bit s.flags.c 1
    (encode .pha = [0x48] ∧ ∃ t, exec .pha s = .next t ∧ t = { s with sp := s.sp - 1, mem := t.mem } ∧
      ∀ b : Addr, t.rawRead b = if b = stackAt s.sp then s.a else s.rawRead b) ∧
    (encode .php = [0x08] ∧ ∃ t, exec .php s = .next t ∧ t = { s with sp := s.sp - 1, mem := t.mem } ∧
      ∀ b : Addr, t.rawRead b = if b = stackAt s.sp then BitVec.ofNat 8 status else s.rawRead b)

/-- O30. PLA and PLP are encoded as listed and complete: S is one higher modulo 256 and the byte at 0x0100 + the new S goes to A with Z and N, or to the seven flags from bits 7, 6, 4, 3, 2, 1, 0; nothing else changes. Both instructions are general knowledge of the spec (D1, log entry 2, PRESUMED); that a pull raises S and then reads follows from D3 (log entry 2), and the layout and what PLP loads, B from bit 4 included, are D5 and D7 (log entry 11, PRESUMED). -/
def Obligations.PlaAndPlpPullOneByte : Prop :=
  ∀ s : State,
    let m := s.rawRead (stackAt (s.sp + 1))
    let bit (k : Nat) : Bool := decide (m.toNat / 2 ^ k % 2 = 1)
    Does .pla [0x68] s { s with sp := s.sp + 1, a := m, flags := zn m s.flags } ∧
    Does .plp [0x28] s
      { s with sp := s.sp + 1, flags := { n := bit 7, v := bit 6, b := bit 4, d := bit 3, i := bit 2, z := bit 1, c := bit 0 } }

/-- O31. From every state: PHA then PLA, whatever A, X, Y, the flags and PC became in between, restores the A pushed and S; PHP then PLP restores the flags pushed, with B = 1, and S. That PHP pushes bit 4 set (D6) and PLP loads B from it (D7) are decisions of the spec (log entry 11, PRESUMED). The four instructions are general knowledge of the spec (D1, log entry 2, PRESUMED); the order of write, read and change of S is D3 (log entry 2), the layout of the byte D5 (log entry 11). -/
def Obligations.PullUndoesPush : Prop :=
  ∀ (s : State) (a x y : Byte) (f : Flags) (pc : Addr),
    (∃ t u, exec .pha s = .next t ∧ exec .pla { t with a := a, x := x, y := y, flags := f, pc := pc } = .next u ∧ u.a = s.a ∧ u.sp = s.sp) ∧
    (∃ t u, exec .php s = .next t ∧ exec .plp { t with a := a, x := x, y := y, flags := f, pc := pc } = .next u ∧
      u.flags = { s.flags with b := true } ∧ u.sp = s.sp)

/-- O32. Each is encoded as listed and completes with its flag 0 or 1 and nothing else changed; NOP completes with the state as the fetch left it. The instructions are general knowledge of the spec (D1, log entry 2, PRESUMED). -/
def Obligations.FlagInstructionsWriteOneFlag : Prop :=
  ∀ s : State,
    Does .clc [0x18] s { s with flags := { s.flags with c := false } } ∧ Does .sec [0x38] s { s with flags := { s.flags with c := true } } ∧
    Does .cli [0x58] s { s with flags := { s.flags with i := false } } ∧ Does .sei [0x78] s { s with flags := { s.flags with i := true } } ∧
    Does .clv [0xB8] s { s with flags := { s.flags with v := false } } ∧ Does .cld [0xD8] s { s with flags := { s.flags with d := false } } ∧
    Does .sed [0xF8] s { s with flags := { s.flags with d := true } } ∧ Does .nop [0xEA] s s

/-- O33. JMP is encoded as listed and completes with PC the operand, or the little-endian word whose low byte stands at the pointer and whose high byte stands at the next address of the same page; both bytes are bus reads; no flag, no byte and nothing else changes. The opcode bytes 4C and 6C are general knowledge of the spec (D1, log entry 2, PRESUMED); that a read has no side effect is its decision D19 (log entry 14, PRESUMED). -/
def Obligations.JumpsLoadPc : Prop :=
  ∀ (s : State) (addr ptr : Addr),
    Does (.jmpAbs addr) (0x4C :: wordBytes addr) s { s with pc := addr } ∧
    Does (.jmpInd ptr) (0x6C :: wordBytes ptr) s
      { s with pc := wordOf (s.busRead (BitVec.ofNat 16 (256 * (ptr.toNat / 256) + (ptr.toNat % 256 + 1) % 256))) (s.busRead ptr) }

/-- O34. JSR is encoded as listed and completes: PC - 1 (the address of its last byte) pushed high byte at 0x0100 + S, low byte one below with wrap, S two lower, PC the target, nothing else changed. RTS completes with PC the pulled word plus 1 and S two higher, nothing else changed. After JSR, RTS returns to the instruction after the JSR with S restored. The opcode bytes are general knowledge of the spec (D1); that a push writes at 0x0100 + S and then lowers S is its decision D3 (R26; log entry 2, PRESUMED), from which it derives the order of the two bytes and the pulls (R27 to R29), and that both operand bytes are fetched before the push is its decision D23 (log entry 19, PRESUMED). -/
def Obligations.JsrPushesAndRtsPulls : Prop :=
  (∀ (s : State) (addr : Addr),
    encode (.jsr addr) = 0x20 :: wordBytes addr ∧ ∃ t, exec (.jsr addr) s = .next t ∧
      t = { s with sp := s.sp - 2, pc := addr, mem := t.mem } ∧
      ∀ b : Addr, t.rawRead b =
        if b = stackAt s.sp then BitVec.ofNat 8 ((s.pc - 1).toNat / 256)
        else if b = stackAt (s.sp - 1) then BitVec.ofNat 8 ((s.pc - 1).toNat % 256)
        else s.rawRead b) ∧
  (∀ s : State,
    Does .rts [0x60] s { s with sp := s.sp + 2, pc := wordOf (s.rawRead (stackAt (s.sp + 2))) (s.rawRead (stackAt (s.sp + 1))) + 1 }) ∧
  ∀ (s : State) (addr p : Addr), ∃ t, exec (.jsr addr) s = .next t ∧ exec .rts { t with pc := p } = .next { s with mem := t.mem }

/-- O35. Each branch is encoded as listed and completes: when its condition holds, PC is the address of the next instruction plus the offset read as signed, modulo 65536; else PC stays there; no flag and nothing else changes. Mnemonics, the flag each tests and the opcode bytes are general knowledge of the spec (D1, log entry 2, PRESUMED). -/
def Obligations.BranchesTestOneFlag : Prop :=
  ∀ (s : State) (off : Byte),
    let goes (taken : Bool) : State := if taken then { s with pc := BitVec.ofInt 16 (s.pc.toNat + off.toInt) } else s
    Does (.bcc off) [0x90, off] s (goes (!s.flags.c)) ∧
    Does (.bcs off) [0xB0, off] s (goes (s.flags.c)) ∧
    Does (.beq off) [0xF0, off] s (goes (s.flags.z)) ∧
    Does (.bne off) [0xD0, off] s (goes (!s.flags.z)) ∧
    Does (.bmi off) [0x30, off] s (goes (s.flags.n)) ∧
    Does (.bpl off) [0x10, off] s (goes (!s.flags.n)) ∧
    Does (.bvc off) [0x50, off] s (goes (!s.flags.v)) ∧
    Does (.bvs off) [0x70, off] s (goes (s.flags.v))

/-- O36. From every state, whatever I: BRK completes with three bytes pushed (its own address plus 2, high byte first, then N V 1 1 D I Z C with the old I), B = 1, I = 1, S three lower with wrap, PC the word at 0xFFFE read after the pushes, every other byte and everything else unchanged. The opcode byte is general knowledge of the spec (D1, log entry 2, PRESUMED), and that a push writes at 0x0100 + S and then lowers S is D3 (log entry 2); the layout and bits 5 and 4 of the status byte are D5 and D6 (log entry 11, PRESUMED), the offset 2, the setting of I and that B is set before the push are D8 and D9 (log entry 12, PRESUMED). -/
def Obligations.BrkTakesTheTrap : Prop :=
  ∀ s : State,
    let bit (f : Bool) (k : Nat) : Nat := if f then k else 0
    let status := bit s.flags.n 128 + bit s.flags.v 64 + 32 + 16 + bit s.flags.d 8 + bit s.flags.i 4 + bit s.flags.z 2 + bit s.flags.c 1
    encode .brk = [0x00] ∧ ∃ t, exec .brk s = .next t ∧
      TrapFrame { s with flags := { s.flags with b := true } } t ((s.pc - 1) + 2) (BitVec.ofNat 8 status) 0xFFFE

/-- O37. RTI is encoded as listed and completes: the flags from bits 7, 6, 4, 3, 2, 1, 0 of the byte at 0x0100 + S + 1, PC the word of the next two bytes, S three higher with wrap, nothing else changed, from every state. The source says only that RTI pulls flags, then PC; which bit loads which flag, B from bit 4 included, is D5 and D7 (log entry 11, PRESUMED), the opcode byte is D1 and the order of a pull follows from D3 (log entry 2, PRESUMED). -/
def Obligations.RtiPullsFlagsThenPc : Prop :=
  ∀ s : State,
    let m := s.rawRead (stackAt (s.sp + 1))
    let bit (k : Nat) : Bool := decide (m.toNat / 2 ^ k % 2 = 1)
    Does .rti [0x40] s
      { s with
        sp := s.sp + 3
        flags := { n := bit 7, v := bit 6, b := bit 4, d := bit 3, i := bit 2, z := bit 1, c := bit 0 }
        pc := wordOf (s.rawRead (stackAt (s.sp + 3))) (s.rawRead (stackAt (s.sp + 2))) }

/-- O38. From every state: BRK, then RTI from the handler at any PC, restores registers, S and the flags before the trap with B = 1, and resumes at the BRK address plus 2. In every state of a running CPU with an NMI pending: the NMI entry, then RTI, restores S and the flags with B = 0 and resumes at the PC at which the NMI was taken. Memory is as the pushes left it. These rest on decisions of the spec, all PRESUMED: the offset 2 (D8, log entry 12), that B is 1 or 0 after RTI (the bit pushed D6, loading it D7, the layout D5: log entry 11), the NMI frame, its step of its own and its 7 cycles (D10, D13, D14; log entries 13, 16), and the order of pushes and pulls (D3, log entry 2). -/
def Obligations.RtiReturnsFromBothTraps : Prop :=
  ∀ (s : State) (p : Addr),
    (∃ t, exec .brk s = .next t ∧
      exec .rti { t with pc := p } = .next { s with pc := (s.pc - 1) + 2, flags := { s.flags with b := true }, mem := t.mem }) ∧
    (s.resetDone = true → s.halted = false → s.nmiPending = true → ∃ t, step s = .next t ∧
      exec .rti { t with pc := p } =
        .next { s with
          flags := { s.flags with b := false }, mem := t.mem, nmiPending := false, cycles := s.cycles + 7, budget := s.budget - 7 })

/-- O39. In every state of a reset, running CPU with nmi_pending set: the step fetches nothing, clears nmi_pending, pushes PC and the status byte N V 1 0 D I Z C, sets I, leaves B, loads PC from 0xFFFA after the pushes and charges 7 cycles; nothing else changes. Sequence, vector, the setting of I and the 7 cycles are the spec's decision D10 (log entries 13, 16), that the entry is a step of its own D13 and the one pending flag D30 (log entry 13), the status byte D5 and D6 (log entry 11), and that a push writes at 0x0100 + S and then lowers S is D3 (log entry 2), all PRESUMED. -/
def Obligations.NmiIsTakenAtTheNextStep : Prop :=
  ∀ s : State, s.resetDone = true → s.halted = false → s.nmiPending = true →
    let bit (f : Bool) (k : Nat) : Nat := if f then k else 0
    let status := bit s.flags.n 128 + bit s.flags.v 64 + 32 + bit s.flags.d 8 + bit s.flags.i 4 + bit s.flags.z 2 + bit s.flags.c 1
    ∃ t, step s = .next t ∧
      TrapFrame { s with nmiPending := false, cycles := s.cycles + 7, budget := s.budget - 7 } t s.pc (BitVec.ofNat 8 status) 0xFFFA

/-- O40. From every state exec of the illegal opcode op answers the state with fault_info (op, PC - 1, cycles), halted set and PC one lower (at the byte), and no other change; in a running CPU with no NMI pending whose byte at PC decodes as illegal, step answers the fault with that record and that state, its counters untouched. That PC stays and the counters stand is a decision of the spec (D12); that step answers a fault carrying the state is the model's (log entry 3). Which bytes are illegal is D1 and D2 (log entry 2, PRESUMED), their one constructor the model's (log entry 1). -/
def Obligations.IllegalOpcodeHaltsPrecisely : Prop :=
  (∀ (s : State) (op : Byte),
    Does (.illegal op) [op] s { s with halted := true, faultInfo := some ⟨op, s.pc - 1, s.cycles⟩, pc := s.pc - 1 }) ∧
  ∀ s : State, Fetches s → s.busRead s.pc ∈ listedIllegal →
    let info : FaultInfo := ⟨s.busRead s.pc, s.pc, s.cycles⟩
    step s = .fault (.illegalOpcode (some info) { s with halted := true, faultInfo := some info })

/-- O41. In every halted state after the first reset: step, runOneInstruction and tick answer the recorded fault with the state as it is, also after triggerNMI; whatever any host operation but reset answers, loadProgram of any image included, halted stays set and fault_info stays; triggerNMI, resetMemory and the PPU events complete; reset completes and clears both. That only reset leads out is the spec's decision (D12); that tick leaves budget alone is the model's deduction (log entry 4), and that the fault carries the state its choice (log entry 3). The two PPU events are D19 and D20 (log entry 14). -/
def Obligations.HaltedUntilReset : Prop :=
  ∀ s : State, s.resetDone = true → s.halted = true →
    step s = .fault (.illegalOpcode s.faultInfo s) ∧
    hostOp .runOneInstruction s = .fault (.illegalOpcode s.faultInfo s) ∧
    hostOp .tick s = .fault (.illegalOpcode s.faultInfo s) ∧
    step { s with nmiPending := true } = .fault (.illegalOpcode s.faultInfo { s with nmiPending := true }) ∧
    (∀ op ∈ [HostOp.triggerNmi, .resetMemory, .ppuStatusRead, .ppuDataAccess],
      ∃ t, hostOp op s = .next t ∧ t.halted = true ∧ t.faultInfo = s.faultInfo) ∧
    (∀ op : HostOp, op ≠ .reset →
      (∀ t, hostOp op s = .next t → t.halted = true ∧ t.faultInfo = s.faultInfo) ∧
      (∀ f, hostOp op s = .fault f → f = .illegalOpcode s.faultInfo s)) ∧
    (∃ t, hostOp .reset s = .next t ∧ t.halted = false ∧ t.faultInfo = none)

/-- O42. From every state reset answers A = X = Y = 0, all flags 0, S = 0xFF, PC the word at 0xFFFC, cycles and budget 0, no NMI pending, not halted, the PPU records and w kept, memory kept; with RESET_ZEROES_MEMORY all bytes are 0 and PC is 0. From the construction state it gives State.reset; before the first reset step is refused. Decisions of the spec (log entry 17, PRESUMED): S (D4), halted and fault_info (D12), memory kept or zeroed (D15), the PPU records kept (D22), cycles (D28), nmi_pending (D30); the refusal before the first reset is D29, and the bit that tells it the model's (log entry 5). State.reset has no program loaded (log entry 7). -/
def Obligations.ResetLeavesTheResetState : Prop :=
  (∀ s : State, hostOp .reset s = .next
    { a := 0, x := 0, y := 0, sp := 0xFF, pc := wordOf (s.busRead 0xFFFD) (s.busRead 0xFFFC)
      flags := { n := false, v := false, b := false, d := false, i := false, z := false, c := false }
      mem := s.mem, ppu := s.ppu, nmiPending := false, halted := false, faultInfo := none, cycles := 0, budget := 0, resetDone := true }) ∧
  (∀ (s : State) (b : Addr), (s.resetWith true).rawRead b = 0 ∧ (s.resetWith true).pc = 0 ∧ (s.resetWith true).ppu = s.ppu ∧
    s.resetWith true = State.resetWith false s.resetMemory) ∧
  hostOp .reset .powerOn = .next .reset ∧
  ∀ s : State, s.resetDone = false → step s = .refused .notReset

/-- O43. For an image of at least 16400 bytes loadProgram completes: MEM[0x8000 + i] and MEM[0xC000 + i] become image[16 + i] for i below 16384, every byte below 0x8000 and every other part of the state stays (PC is not reloaded). A shorter image is refused. Both lengths and the refusal are the spec's decision D27 (log entry 18). -/
def Obligations.LoadProgramFillsBothWindows : Prop :=
  ∀ (s : State) (image : List Byte),
    (16400 ≤ image.length → ∃ t, hostOp (.loadProgram image) s = .next t ∧ t = { s with mem := t.mem } ∧
      (∀ b : Addr, b.toNat < 0x8000 → t.rawRead b = s.rawRead b) ∧
      ∀ i : Nat, i < 16384 →
        t.rawRead (BitVec.ofNat 16 (0x8000 + i)) = image.getD (16 + i) 0 ∧ t.rawRead (BitVec.ofNat 16 (0xC000 + i)) = image.getD (16 + i) 0) ∧
    (image.length < 16400 → hostOp (.loadProgram image) s = .refused (.shortImage image.length))

/-- O44. resetMemory makes every byte 0; triggerNMI sets nmi_pending, and a second call changes nothing; ppuStatusRead clears w; ppuDataAccess adds 1 or 32 (PPUCTRL bit 2) to PPUADDR modulo 0x4000; each leaves the rest of the state alone. Decisions of the spec, all PRESUMED: that requests for an NMI collapse (D30, log entry 13), the two PPU host events (D19, D20, log entry 14), bit 2 of PPUCTRL and the mask of PPUADDR (D21, D31, log entry 14), and that resetMemory leaves the PPU records (D22, log entry 17). -/
def Obligations.HostEventsChangeOnlyTheirOwn : Prop :=
  ∀ s : State,
    (∃ t, hostOp .resetMemory s = .next t ∧ t = { s with mem := t.mem } ∧ ∀ b : Addr, t.rawRead b = 0) ∧
    hostOp .triggerNmi s = .next { s with nmiPending := true } ∧
    hostOp .triggerNmi { s with nmiPending := true } = .next { s with nmiPending := true } ∧
    hostOp .ppuStatusRead s = .next { s with ppu := { s.ppu with w := false } } ∧
    hostOp .ppuDataAccess s = .next { s with ppu := { s.ppu with
      addr := BitVec.ofNat 16 ((s.ppu.addr.toNat + if s.ppu.ctrl.toNat / 4 % 2 = 1 then 32 else 1) % 0x4000) } }

/-- O45. In every running state: runOneInstruction answers what step answers on the state with the budget raised to 0 when negative; when it completes, its cost n is at least 2, cycles grow by n and the budget ends at max(budget, 0) - n. That raising the budget leaves cycles alone, and that an NMI entry is the one step, is the spec's decision D13 (log entry 13, PRESUMED); the cost of at least 2 rests on the cycle table D14 (log entry 16, PRESUMED) and the 7 cycles of the NMI entry, D10 (log entry 13). -/
def Obligations.RunOneInstructionIsOneStep : Prop :=
  ∀ s : State, s.resetDone = true → s.halted = false →
    hostOp .runOneInstruction s = step { s with budget := max s.budget 0 } ∧
    ∀ t, hostOp .runOneInstruction s = .next t → ∃ n : Nat, 2 ≤ n ∧ t.cycles = s.cycles + n ∧ t.budget = max s.budget 0 - n

/-- O46. In every running state: when budget + 1 is negative tick only adds 1; else it is the first step at budget + 1, then the loop; when tick completes the budget is negative and cycles plus budget have grown by exactly 1; a step that faults makes tick answer that fault; every step that completes lowers the budget by at least 1, and the loop ends: tick is never refused. -/
def Obligations.TickRunsUntilTheBudgetIsSpent : Prop :=
  ∀ s : State, s.resetDone = true → s.halted = false →
    let first : State := { s with budget := s.budget + 1 }
    (s.budget + 1 < 0 → hostOp .tick s = .next first) ∧
    (0 ≤ s.budget + 1 → ∀ f, step first = .fault f → hostOp .tick s = .fault f) ∧
    (0 ≤ s.budget + 1 → ∀ t, step first = .next t →
      hostOp .tick s = if 0 ≤ t.budget then hostOp .tick { t with budget := t.budget - 1 } else .next t) ∧
    (∀ t, step s = .next t → t.budget + 1 ≤ s.budget) ∧
    (∀ r, hostOp .tick s ≠ .refused r) ∧
    ∀ t, hostOp .tick s = .next t → t.budget < 0 ∧ (t.cycles : Int) + t.budget = s.cycles + s.budget + 1

/-- O47. The cycle table gives every opcode byte the base cost of its group and mode (the documented table the spec supplies from general knowledge, D14), written out here by cost; the NMI entry costs 7. Opcode bytes (D1, log entry 2), table (D14, log entry 16) and the cost of the NMI entry (D10, log entry 13) are PRESUMED by the spec itself. -/
def Obligations.BaseCycleCosts : Prop :=
  nmiCycles = 7 ∧
    (∀ op ∈ ([0xA9, 0xA2, 0xA0, 0x69, 0xE9, 0x29, 0x09, 0x49, 0xC9, 0xE0, 0xC0, 0x0A, 0x4A, 0x2A, 0x6A, 0xAA, 0xA8, 0x8A, 0x98, 0xBA,
      0x9A, 0xE8, 0xC8, 0xCA, 0x88, 0x18, 0x38, 0x58, 0x78, 0xB8, 0xD8, 0xF8, 0xEA, 0x90, 0xB0, 0xF0, 0xD0, 0x30, 0x10, 0x50,
      0x70] : List Byte), config.cycleTable op = 2) ∧
    (∀ op ∈ ([0xA5, 0xA6, 0xA4, 0x65, 0xE5, 0x25, 0x05, 0x45, 0xC5, 0xE4, 0xC4, 0x24, 0x85, 0x86, 0x84, 0x48, 0x08, 0x4C] : List Byte), config.cycleTable op = 3) ∧
    (∀ op ∈ ([0xB5, 0xAD, 0xBD, 0xB9, 0xB6, 0xAE, 0xBE, 0xB4, 0xAC, 0xBC, 0x75, 0x6D, 0x7D, 0x79, 0xF5, 0xED, 0xFD, 0xF9, 0x35, 0x2D,
      0x3D, 0x39, 0x15, 0x0D, 0x1D, 0x19, 0x55, 0x4D, 0x5D, 0x59, 0xD5, 0xCD, 0xDD, 0xD9, 0xEC, 0xCC, 0x2C, 0x95, 0x8D, 0x96,
      0x8E, 0x94, 0x8C, 0x68, 0x28] : List Byte), config.cycleTable op = 4) ∧
    (∀ op ∈ ([0xB1, 0x71, 0xF1, 0x31, 0x11, 0x51, 0xD1, 0x9D, 0x99, 0x06, 0x46, 0x26, 0x66, 0xE6, 0xC6, 0x6C] : List Byte), config.cycleTable op = 5) ∧
    (∀ op ∈ ([0xA1, 0x61, 0xE1, 0x21, 0x01, 0x41, 0xC1, 0x81, 0x91, 0x16, 0x0E, 0x56, 0x4E, 0x36, 0x2E, 0x76, 0x6E, 0xF6, 0xEE, 0xD6,
      0xCE, 0x20, 0x60, 0x40] : List Byte), config.cycleTable op = 6) ∧
    (∀ op ∈ ([0x1E, 0x5E, 0x3E, 0x7E, 0xFE, 0xDE, 0x00] : List Byte), config.cycleTable op = 7)

/-- O48. For every state after the fetch: each read in absolute,X, absolute,Y or (zp),Y costs its base, plus 1 iff the indexing changes the high byte; each store and read-modify-write costs its base whatever the crossing; each branch costs 2, 3 when taken, 4 when taken and the target lies in another page than the next instruction. Every instruction that is no read in those three modes and no branch costs exactly what CYCLE_TABLE gives its opcode. Table and page of a branch are decisions of the spec (D14, D26; log entry 16, PRESUMED); which opcode byte is which instruction is D1 (log entry 2). -/
def Obligations.PageCrossingsAreChargedToReadsAndBranches : Prop :=
  ∀ (s : State) (zp off : Byte) (addr : Addr),
    let cost (i : Instr) : Nat := cycleCost config.cycleTable i s
    let page (b : Addr) : Nat := b.toNat / 256
    let plus (b : Addr) (r : Byte) : Nat := if page (b + BitVec.ofNat 16 r.toNat) ≠ page b then 1 else 0
    (∀ i ∈ ([.ldaAbsx addr, .ldyAbsx addr, .adcAbsx addr, .sbcAbsx addr, .andAbsx addr, .oraAbsx addr, .eorAbsx addr, .cmpAbsx addr] : List Instr), cost i = 4 + plus addr s.x) ∧
    (∀ i ∈ ([.ldaAbsy addr, .ldxAbsy addr, .adcAbsy addr, .sbcAbsy addr, .andAbsy addr, .oraAbsy addr, .eorAbsy addr, .cmpAbsy addr] : List Instr), cost i = 4 + plus addr s.y) ∧
    (∀ i ∈ ([.ldaIndy zp, .adcIndy zp, .sbcIndy zp, .andIndy zp, .oraIndy zp, .eorIndy zp, .cmpIndy zp] : List Instr), cost i = 5 + plus (s.readZeroPage16 zp) s.y) ∧
    (∀ i ∈ ([.staAbsx addr, .staAbsy addr] : List Instr), cost i = 5) ∧ cost (.staIndy zp) = 6 ∧
    (∀ i ∈ ([.aslAbsx addr, .lsrAbsx addr, .rolAbsx addr, .rorAbsx addr, .incAbsx addr, .decAbsx addr] : List Instr), cost i = 7) ∧
    (∀ p ∈ ([(.bcc off, !s.flags.c), (.bcs off, s.flags.c), (.beq off, s.flags.z), (.bne off, !s.flags.z), (.bmi off, s.flags.n), (.bpl off, !s.flags.n), (.bvc off, !s.flags.v), (.bvs off, s.flags.v)] : List (Instr × Bool)),
      cost p.1 = if p.2 then (if page (BitVec.ofInt 16 (s.pc.toNat + off.toInt)) ≠ page s.pc then 4 else 3) else 2) ∧
    ∀ i : Instr, i.opcode ∉ ([0xBD, 0xBC, 0x7D, 0xFD, 0x3D, 0x1D, 0x5D, 0xDD, 0xB9, 0xBE, 0x79, 0xF9, 0x39, 0x19, 0x59, 0xD9, 0xB1, 0x71, 0xF1, 0x31,
      0x11, 0x51, 0xD1, 0x90, 0xB0, 0xF0, 0xD0, 0x30, 0x10, 0x50, 0x70] : List Byte) → cost i = config.cycleTable i.opcode

/-- O49. If step completes from s, it completes from s with any other cycles and budget, with the same cost n added to cycles and taken from the budget, and the same everything else: no register, flag or byte depends on time. -/
def Obligations.TimingChangesNothingElse : Prop :=
  ∀ (s t : State) (cycles : Nat) (budget : Int), step s = .next t → ∃ n : Nat,
    t.cycles = s.cycles + n ∧ t.budget = s.budget - n ∧
    step { s with cycles := cycles, budget := budget } = .next { t with cycles := cycles + n, budget := budget - n }

/-- O50. When a running CPU with no NMI pending steps over the instruction i at PC: if i is none of JMP, JSR, RTS, the branches, BRK and RTI, PC afterwards is PC before plus the length of i (1, 2 or 3) modulo 65536. Which opcode bytes are the control transfers is general knowledge of the spec (D1, log entry 2, PRESUMED). -/
def Obligations.OnlyControlTransfersMovePc : Prop :=
  ∀ (s t : State) (i : Instr) (rest : List Byte), Fetches s →
    decode [s.busRead s.pc, s.busRead (s.pc + 1), s.busRead (s.pc + 2)] = .ok (i, rest) → step s = .next t →
    i.opcode ∉ ([0x4C, 0x6C, 0x20, 0x60, 0x90, 0xB0, 0xF0, 0xD0, 0x30, 0x10, 0x50, 0x70, 0x00, 0x40] : List Byte) →
    t.pc.toNat = (s.pc.toNat + (encode i).length) % 65536

/-- O51. For every instruction and state: D changes only by CLD SED PLP RTI, I only by CLI SEI PLP RTI BRK, B only by PLP RTI BRK, V only by ADC SBC BIT CLV PLP RTI, C only by ADC SBC the shifts and rotates the compares CLC SEC PLP RTI, and N and Z only by the data-producing instructions, the compares, BIT, PLP and RTI. The table is marked as derived by the spec. It rests on general knowledge of the spec (D1, log entry 2, PRESUMED) for opcode bytes and most instructions, on D7 for what PLP and RTI load (log entry 11) and on D9 for BRK (log entry 12). -/
def Obligations.FlagsChangeOnlyWhereTheTableSays : Prop :=
  ∀ (i : Instr) (s t : State), exec i s = .next t →
    (i.opcode ∉ ([0xD8, 0xF8, 0x28, 0x40] : List Byte) → t.flags.d = s.flags.d) ∧
    (i.opcode ∉ ([0x58, 0x78, 0x28, 0x40, 0x00] : List Byte) → t.flags.i = s.flags.i) ∧
    (i.opcode ∉ ([0x28, 0x40, 0x00] : List Byte) → t.flags.b = s.flags.b) ∧
    (i.opcode ∉ ([0x69, 0x65, 0x75, 0x6D, 0x7D, 0x79, 0x61, 0x71, 0xE9, 0xE5, 0xF5, 0xED, 0xFD, 0xF9, 0xE1, 0xF1, 0x24, 0x2C, 0xB8, 0x28,
      0x40] : List Byte) → t.flags.v = s.flags.v) ∧
    (i.opcode ∉ ([0x69, 0x65, 0x75, 0x6D, 0x7D, 0x79, 0x61, 0x71, 0xE9, 0xE5, 0xF5, 0xED, 0xFD, 0xF9, 0xE1, 0xF1, 0x0A, 0x06, 0x16, 0x0E,
      0x1E, 0x4A, 0x46, 0x56, 0x4E, 0x5E, 0x2A, 0x26, 0x36, 0x2E, 0x3E, 0x6A, 0x66, 0x76, 0x6E, 0x7E, 0xC9, 0xC5, 0xD5, 0xCD,
      0xDD, 0xD9, 0xC1, 0xD1, 0xE0, 0xE4, 0xEC, 0xC0, 0xC4, 0xCC, 0x18, 0x38, 0x28, 0x40] : List Byte) → t.flags.c = s.flags.c) ∧
    (i.opcode ∉ ([0xA9, 0xA5, 0xB5, 0xAD, 0xBD, 0xB9, 0xA1, 0xB1, 0xA2, 0xA6, 0xB6, 0xAE, 0xBE, 0xA0, 0xA4, 0xB4, 0xAC, 0xBC, 0xAA, 0xA8,
      0x8A, 0x98, 0xBA, 0x68, 0x29, 0x25, 0x35, 0x2D, 0x3D, 0x39, 0x21, 0x31, 0x09, 0x05, 0x15, 0x0D, 0x1D, 0x19, 0x01, 0x11,
      0x49, 0x45, 0x55, 0x4D, 0x5D, 0x59, 0x41, 0x51, 0xE6, 0xF6, 0xEE, 0xFE, 0xC6, 0xD6, 0xCE, 0xDE, 0xE8, 0xC8, 0xCA, 0x88,
      0x69, 0x65, 0x75, 0x6D, 0x7D, 0x79, 0x61, 0x71, 0xE9, 0xE5, 0xF5, 0xED, 0xFD, 0xF9, 0xE1, 0xF1, 0x0A, 0x06, 0x16, 0x0E,
      0x1E, 0x4A, 0x46, 0x56, 0x4E, 0x5E, 0x2A, 0x26, 0x36, 0x2E, 0x3E, 0x6A, 0x66, 0x76, 0x6E, 0x7E, 0xC9, 0xC5, 0xD5, 0xCD,
      0xDD, 0xD9, 0xC1, 0xD1, 0xE0, 0xE4, 0xEC, 0xC0, 0xC4, 0xCC, 0x24, 0x2C, 0x28, 0x40] : List Byte) →
      t.flags.n = s.flags.n ∧ t.flags.z = s.flags.z)

/-- O52. For every instruction and state: A, X, Y and S change only by the instructions the spec names as their writers; no byte of memory changes but by the stores, the read-modify-write forms, PHA, PHP, JSR and BRK; the PPU records change only by the stores and read-modify-write forms. The assignment of registers to instructions is partly general knowledge of the spec (D1, log entry 2, PRESUMED), S as an offset D3 (log entry 2); that a read has no side effect is D19 and D20 (log entry 14), that there is no dummy access D23 (log entry 19), all PRESUMED. -/
def Obligations.RegistersAndMemoryChangeOnlyByTheirWriters : Prop :=
  ∀ (i : Instr) (s t : State), exec i s = .next t →
    (i.opcode ∉ ([0xA9, 0xA5, 0xB5, 0xAD, 0xBD, 0xB9, 0xA1, 0xB1, 0x8A, 0x98, 0x69, 0x65, 0x75, 0x6D, 0x7D, 0x79, 0x61, 0x71, 0xE9, 0xE5,
      0xF5, 0xED, 0xFD, 0xF9, 0xE1, 0xF1, 0x29, 0x25, 0x35, 0x2D, 0x3D, 0x39, 0x21, 0x31, 0x09, 0x05, 0x15, 0x0D, 0x1D, 0x19,
      0x01, 0x11, 0x49, 0x45, 0x55, 0x4D, 0x5D, 0x59, 0x41, 0x51, 0x68, 0x0A, 0x4A, 0x2A, 0x6A] : List Byte) → t.a = s.a) ∧
    (i.opcode ∉ ([0xA2, 0xA6, 0xB6, 0xAE, 0xBE, 0xAA, 0xBA, 0xE8, 0xCA] : List Byte) → t.x = s.x) ∧
    (i.opcode ∉ ([0xA0, 0xA4, 0xB4, 0xAC, 0xBC, 0xA8, 0xC8, 0x88] : List Byte) → t.y = s.y) ∧
    (i.opcode ∉ ([0x9A, 0x48, 0x68, 0x08, 0x28, 0x20, 0x60, 0x00, 0x40] : List Byte) → t.sp = s.sp) ∧
    (i.opcode ∉ ([0x85, 0x95, 0x8D, 0x9D, 0x99, 0x81, 0x91, 0x86, 0x96, 0x8E, 0x84, 0x94, 0x8C, 0xE6, 0xF6, 0xEE, 0xFE, 0xC6, 0xD6, 0xCE,
      0xDE, 0x48, 0x08, 0x20, 0x00, 0x06, 0x16, 0x0E, 0x1E, 0x46, 0x56, 0x4E, 0x5E, 0x26, 0x36, 0x2E, 0x3E, 0x66, 0x76, 0x6E,
      0x7E] : List Byte) →
      t.mem = s.mem ∧ ∀ b : Addr, t.rawRead b = s.rawRead b) ∧
    (i.opcode ∉ ([0x85, 0x95, 0x8D, 0x9D, 0x99, 0x81, 0x91, 0x86, 0x96, 0x8E, 0x84, 0x94, 0x8C, 0xE6, 0xF6, 0xEE, 0xFE, 0xC6, 0xD6, 0xCE,
      0xDE, 0x06, 0x16, 0x0E, 0x1E, 0x46, 0x56, 0x4E, 0x5E, 0x26, 0x36, 0x2E, 0x3E, 0x66, 0x76, 0x6E, 0x7E] : List Byte) → t.ppu = s.ppu)

/-- O53. For every state from which step completes, and every index that is not its own mirror (0x0800 to 0x1FFF and 0x2008 to 0x3FFF), the raw byte there is unchanged. -/
def Obligations.NonCanonicalBytesAreNeverWritten : Prop :=
  ∀ (s t : State) (b : Addr), step s = .next t → (0x0800 ≤ b.toNat ∧ b.toNat ≤ 0x1FFF) ∨ (0x2008 ≤ b.toNat ∧ b.toNat ≤ 0x3FFF) →
    t.rawRead b = s.rawRead b

/-- O54. Under every configuration: a step that is no fetch (not reset, halted, NMI) is that of step. At a fetch: a byte outside IMPLEMENTED gives the illegal-opcode fault; an implemented 0x00 is the BRK trap with return address PC plus BRK_RETURN_OFFSET, the status byte N V 1 1 D I Z C, B and I set, S three lower, PC from 0xFFFE, charged what CYCLE_TABLE gives 0x00, nothing else changed; at any other implemented byte the step faults as step does, and else answers the state of step but for the charge, which is the entry of CYCLE_TABLE plus the penalty p (0, 1 or 2) that step pays too. At the default configuration stepWith is step, BRK_RETURN_OFFSET is 2 and every byte passes IMPLEMENTED. Decisions of the spec: the defaults D1, D8, D14 (log entries 2, 12, 16), the status byte D5 and D6 (log entry 11), I and B D9 (log entry 12), the push D3 (log entry 2), the page of a branch D26 (log entry 16), what a fault leaves D12; the form of the fault and of the parameters is the model's (log entries 3, 20). -/
def Obligations.ParametersActAsDescribed : Prop :=
  (∀ (cfg : Config) (s : State), ¬ Fetches s → stepWith cfg s = step s) ∧
  (∀ (cfg : Config) (s : State), Fetches s →
    let op := s.busRead s.pc
    let bit (f : Bool) (k : Nat) : Nat := if f then k else 0
    let status := bit s.flags.n 128 + bit s.flags.v 64 + 32 + 16 + bit s.flags.d 8 + bit s.flags.i 4 + bit s.flags.z 2 + bit s.flags.c 1
    (cfg.implemented op = false →
      let info : FaultInfo := ⟨op, s.pc, s.cycles⟩
      stepWith cfg s = .fault (.illegalOpcode (some info) { s with halted := true, faultInfo := some info })) ∧
    (cfg.implemented op = true → op = 0x00 → ∃ t, stepWith cfg s = .next t ∧
      TrapFrame
        { s with
          flags := { s.flags with b := true }, cycles := s.cycles + cfg.cycleTable 0x00, budget := s.budget - cfg.cycleTable 0x00 }
        t (s.pc + cfg.brkReturnOffset) (BitVec.ofNat 8 status) 0xFFFE) ∧
    (cfg.implemented op = true → op ≠ 0x00 →
      (∀ f, step s = .fault f → stepWith cfg s = .fault f) ∧
      ∀ t, step s = .next t → ∃ p : Nat, p ≤ 2 ∧ t.cycles = s.cycles + (config.cycleTable op + p) ∧
        t.budget = s.budget - (config.cycleTable op + p : Nat) ∧
        stepWith cfg s = .next
          { t with cycles := s.cycles + (cfg.cycleTable op + p), budget := s.budget - (cfg.cycleTable op + p : Nat) })) ∧
  (∀ s : State, stepWith config s = step s) ∧ config.brkReturnOffset = 2 ∧ ∀ op, config.implemented op = true

/-- O55. In State.reset and State.powerOn memory is in canonical form, PPUADDR is at most 0x3FFF, and no fault is recorded as the CPU is not halted. That fault_info is none in the construction state is the model's choice (log entry 21). The canonical form is the model's way to hold memory (log entry 23, DESIGN CHOICE); the zero PPU records and the mask of PPUADDR are D22 and D31 (log entries 17, 14), fault_info after reset D12. -/
def Obligations.ResetStateHasTheInvariant : Prop :=
  State.reset.Inv ∧ State.powerOn.Inv

/-- O56. For every state with the invariant, under every configuration: the next state a step answers has it, and the state that a fault leaves has it. That PPUADDR is masked after every half is the spec's decision D31 (log entry 14, PRESUMED); the canonical form of memory, the parameters as a configuration, and that a fault carries the state it leaves are the model's choices (log entries 23, 20, 3). -/
def Obligations.StepKeepsTheInvariant : Prop :=
  ∀ (cfg : Config) (s : State), s.Inv →
    (∀ t, stepWith cfg s = .next t → t.Inv) ∧ (∀ info left, stepWith cfg s = .fault (.illegalOpcode info left) → left.Inv)

/-- O57. In every state the host can bring about from the construction state by any sequence of its operations (faults included, images of any content): memory is canonical, PPUADDR is at most 0x3FFF, a fault is recorded iff the CPU is halted, and every raw byte at a non-canonical index is 0x00. That fault_info is none at construction, that a fault carries the state it leaves, and the canonical form of memory are the model's choices (log entries 21, 3, 23); the mask of PPUADDR, the PPU records that a reset keeps and the geometry of loadProgram are decisions of the spec (D31, D22, D27; log entries 14, 17, 18). -/
def Obligations.EveryReachableStateIsSound : Prop :=
  ∀ s : State, HostReachable s → s.Inv ∧ ∀ b : Addr, mirror b ≠ b → s.rawRead b = 0

/-- O58. Under every configuration, any CYCLE_TABLE included: reset is the reset that zeroes memory or not as RESET_ZEROES_MEMORY says; runOneInstruction and tick are refused before the first reset and answer the recorded fault when halted; running, runOneInstruction is the step at budget max(budget, 0); tick only adds 1 while budget + 1 is negative, else is the fault of its first step, or goes on from it with one step fewer to watch; when it ends the budget is negative and cycles plus budget have grown by 1; an answer stands for every larger number of steps. Where every instruction is charged at least 1, budget + 2 steps are enough, and tick is not refused. The other operations read no parameter. The answers at the default configuration are hostOp, which always has one. The number of steps for which tick is watched is the model's (log entry 10), and so are the parameters as a configuration (log entry 20); that a halted tick leaves budget alone is its deduction (log entry 4), the refusal and the form of the fault its choice (log entries 5 and 3). The two resets are D15 (log entry 17), raising the budget without cycles D13 (log entry 13), the fault returned again D12, the refusal before the first reset D29, the default table and the cost of an NMI entry D14 and D10 (log entries 16, 13). -/
def Obligations.HostOperationsTakeTheParameters : Prop :=
  (∀ (cfg : Config) (s : State),
    (∀ steps, hostOpWith cfg steps .reset s = some (.next (s.resetWith cfg.resetZeroesMemory))) ∧
    (∀ (steps : Nat) (op : HostOp), op ∉ ([.reset, .runOneInstruction, .tick] : List HostOp) → hostOpWith cfg steps op s = some (hostOp op s)) ∧
    (∀ (steps : Nat), ∀ op ∈ ([.runOneInstruction, .tick] : List HostOp),
      (s.resetDone = false → hostOpWith cfg steps op s = some (.refused .notReset)) ∧
      (s.resetDone = true → s.halted = true → hostOpWith cfg steps op s = some (.fault (.illegalOpcode s.faultInfo s)))) ∧
    (s.resetDone = true → s.halted = false →
      let first : State := { s with budget := s.budget + 1 }
      (∀ steps, hostOpWith cfg steps .runOneInstruction s = some (stepWith cfg { s with budget := max s.budget 0 })) ∧
      (s.budget + 1 < 0 → ∀ steps, hostOpWith cfg steps .tick s = some (.next first)) ∧
      (0 ≤ s.budget + 1 → hostOpWith cfg 0 .tick s = none ∧ ∀ steps : Nat,
        (∀ f, stepWith cfg first = .fault f → hostOpWith cfg (steps + 1) .tick s = some (.fault f)) ∧
        ∀ t, stepWith cfg first = .next t →
          hostOpWith cfg (steps + 1) .tick s = hostOpWith cfg steps .tick { t with budget := t.budget - 1 }) ∧
      (∀ steps t, hostOpWith cfg steps .tick s = some (.next t) → t.budget < 0 ∧ (t.cycles : Int) + t.budget = s.cycles + s.budget + 1) ∧
      (∀ steps a, hostOpWith cfg steps .tick s = some a → ∀ more, steps ≤ more → hostOpWith cfg more .tick s = some a) ∧
      ((∀ i : Instr, (∀ op, i ≠ .illegal op) → 1 ≤ cfg.cycleTable i.opcode) → ∀ steps : Nat, s.budget + 2 ≤ steps →
        ∃ a, hostOpWith cfg steps .tick s = some a ∧ ∀ r, a ≠ .refused r))) ∧
  ∀ (op : HostOp) (s : State), hostOpWith config (s.budget + 2).toNat op s = some (hostOp op s)

/-- O59. A bus write of v to canonical 0x2000: NametableBase is 0x2000, plus 0x0400 when bit 0 and plus 0x0800 when bit 1 is set (0x2800 for v = 2, scenario 6 of the source), SpriteHeight is 16 or 8 by bit 5, VramIncrement 32 or 1 by bit 2, and each of the eight named fields is its bit of v. A bus write to canonical 0x2001: each of the eight named fields of PPUMASK is its bit of v. Addresses and bit positions are decisions of the spec (D16, D21; log entry 14, PRESUMED). -/
def Obligations.PpuFieldsFollowTheirLayout : Prop :=
  ∀ (s : State) (a : Addr) (v : Byte),
    let bit (k : Nat) : Bool := decide (v.toNat / 2 ^ k % 2 = 1)
    let q := (s.busWrite a v).ppu
    ((mirror a).toNat = 0x2000 →
      q.nametableBase = 0x2000 + (if bit 0 then 0x0400 else 0) + (if bit 1 then 0x0800 else 0) ∧
      q.spriteHeight = (if bit 5 then 16 else 8) ∧ q.vramIncrement = (if bit 2 then 32 else 1) ∧
      q.nametableLo = bit 0 ∧ q.nametableHi = bit 1 ∧ q.vramIncrementBit = bit 2 ∧ q.spritePattern = bit 3 ∧
      q.backgroundPattern = bit 4 ∧ q.spriteSize = bit 5 ∧ q.masterSlave = bit 6 ∧ q.nmiEnable = bit 7) ∧
    ((mirror a).toNat = 0x2001 →
      q.greyscale = bit 0 ∧ q.showBackgroundLeft = bit 1 ∧ q.showSpritesLeft = bit 2 ∧ q.showBackground = bit 3 ∧
      q.showSprites = bit 4 ∧ q.emphasizeRed = bit 5 ∧ q.emphasizeGreen = bit 6 ∧ q.emphasizeBlue = bit 7)

/-- O60. For every configuration, number of steps for which tick is watched, operation (loadProgram of any image included) and state with the invariant whose raw bytes at non-canonical indexes are all 0x00: the state the operation answers has both, and so has the state that a fault leaves, which the fault carries by the model's choice (log entry 3). The mask of PPUADDR, the resets and the geometry of loadProgram are decisions of the spec (D31, D15, D22, D27; log entries 14, 17, 18); the canonical form of memory, the parameters as a configuration and the number of steps for which tick is watched are the model's choices (log entries 23, 20, 10). -/
def Obligations.HostOperationsKeepTheInvariant : Prop :=
  ∀ (cfg : Config) (steps : Nat) (op : HostOp) (s : State), s.Inv → (∀ b : Addr, mirror b ≠ b → s.rawRead b = 0) →
    (∀ t, hostOpWith cfg steps op s = some (.next t) → t.Inv ∧ ∀ b : Addr, mirror b ≠ b → t.rawRead b = 0) ∧
    (∀ info left, hostOpWith cfg steps op s = some (.fault (.illegalOpcode info left)) → left.Inv ∧ ∀ b : Addr, mirror b ≠ b → left.rawRead b = 0)
end

