-- ==== Sys2Proof/Laws/Decode.lean ====
section
/-! SUPPORT. The rows of the decode function, one lemma each (30_encoding.md R87), so that no proof unfolds the whole match; and the byte-order helpers. -/

namespace Sys2Proof

theorem concat16_toNat (hi lo : Byte) : (concat16 hi lo).toNat = 256 * hi.toNat + lo.toNat := by
  simp only [concat16, BitVec.toNat_append]
  have := lo.isLt
  rw [← Nat.shiftLeft_add_eq_or_of_lt this, Nat.shiftLeft_eq]
  omega

theorem highByte_toNat (v : Addr) : (highByte v).toNat = v.toNat / 256 := by
  simp only [highByte, BitVec.extractLsb'_toNat, Nat.shiftRight_eq_div_pow]
  have := v.isLt
  omega

theorem lowByte_toNat (v : Addr) : (lowByte v).toNat = v.toNat % 256 := by
  simp [lowByte, BitVec.extractLsb'_toNat]

@[simp] theorem concat16_high_low (v : Addr) : concat16 (highByte v) (lowByte v) = v := by
  apply BitVec.eq_of_toNat_eq
  rw [concat16_toNat, highByte_toNat, lowByte_toNat]
  omega

@[simp] theorem highByte_concat16 (hi lo : Byte) : highByte (concat16 hi lo) = hi := by
  apply BitVec.eq_of_toNat_eq
  rw [highByte_toNat, concat16_toNat]
  have := lo.isLt
  omega

@[simp] theorem lowByte_concat16 (hi lo : Byte) : lowByte (concat16 hi lo) = lo := by
  apply BitVec.eq_of_toNat_eq
  rw [lowByte_toNat, concat16_toNat]
  have := lo.isLt
  omega

variable (b1 b2 : Byte)

@[simp] theorem decode3_00 : decode3 0x00#8 b1 b2 = .brk := rfl
@[simp] theorem decode3_01 : decode3 0x01#8 b1 b2 = .oraIndx b1 := rfl
@[simp] theorem decode3_05 : decode3 0x05#8 b1 b2 = .oraZp b1 := rfl
@[simp] theorem decode3_06 : decode3 0x06#8 b1 b2 = .aslZp b1 := rfl
@[simp] theorem decode3_08 : decode3 0x08#8 b1 b2 = .php := rfl
@[simp] theorem decode3_09 : decode3 0x09#8 b1 b2 = .oraImm b1 := rfl
@[simp] theorem decode3_0A : decode3 0x0A#8 b1 b2 = .aslAcc := rfl
@[simp] theorem decode3_0D : decode3 0x0D#8 b1 b2 = .oraAbs (concat16 b2 b1) := rfl
@[simp] theorem decode3_0E : decode3 0x0E#8 b1 b2 = .aslAbs (concat16 b2 b1) := rfl
@[simp] theorem decode3_10 : decode3 0x10#8 b1 b2 = .bpl b1 := rfl
@[simp] theorem decode3_11 : decode3 0x11#8 b1 b2 = .oraIndy b1 := rfl
@[simp] theorem decode3_15 : decode3 0x15#8 b1 b2 = .oraZpx b1 := rfl
@[simp] theorem decode3_16 : decode3 0x16#8 b1 b2 = .aslZpx b1 := rfl
@[simp] theorem decode3_18 : decode3 0x18#8 b1 b2 = .clc := rfl
@[simp] theorem decode3_19 : decode3 0x19#8 b1 b2 = .oraAbsy (concat16 b2 b1) := rfl
@[simp] theorem decode3_1D : decode3 0x1D#8 b1 b2 = .oraAbsx (concat16 b2 b1) := rfl
@[simp] theorem decode3_1E : decode3 0x1E#8 b1 b2 = .aslAbsx (concat16 b2 b1) := rfl
@[simp] theorem decode3_20 : decode3 0x20#8 b1 b2 = .jsr (concat16 b2 b1) := rfl
@[simp] theorem decode3_21 : decode3 0x21#8 b1 b2 = .andIndx b1 := rfl
@[simp] theorem decode3_24 : decode3 0x24#8 b1 b2 = .bitZp b1 := rfl
@[simp] theorem decode3_25 : decode3 0x25#8 b1 b2 = .andZp b1 := rfl
@[simp] theorem decode3_26 : decode3 0x26#8 b1 b2 = .rolZp b1 := rfl
@[simp] theorem decode3_28 : decode3 0x28#8 b1 b2 = .plp := rfl
@[simp] theorem decode3_29 : decode3 0x29#8 b1 b2 = .andImm b1 := rfl
@[simp] theorem decode3_2A : decode3 0x2A#8 b1 b2 = .rolAcc := rfl
@[simp] theorem decode3_2C : decode3 0x2C#8 b1 b2 = .bitAbs (concat16 b2 b1) := rfl
@[simp] theorem decode3_2D : decode3 0x2D#8 b1 b2 = .andAbs (concat16 b2 b1) := rfl
@[simp] theorem decode3_2E : decode3 0x2E#8 b1 b2 = .rolAbs (concat16 b2 b1) := rfl
@[simp] theorem decode3_30 : decode3 0x30#8 b1 b2 = .bmi b1 := rfl
@[simp] theorem decode3_31 : decode3 0x31#8 b1 b2 = .andIndy b1 := rfl
@[simp] theorem decode3_35 : decode3 0x35#8 b1 b2 = .andZpx b1 := rfl
@[simp] theorem decode3_36 : decode3 0x36#8 b1 b2 = .rolZpx b1 := rfl
@[simp] theorem decode3_38 : decode3 0x38#8 b1 b2 = .sec := rfl
@[simp] theorem decode3_39 : decode3 0x39#8 b1 b2 = .andAbsy (concat16 b2 b1) := rfl
@[simp] theorem decode3_3D : decode3 0x3D#8 b1 b2 = .andAbsx (concat16 b2 b1) := rfl
@[simp] theorem decode3_3E : decode3 0x3E#8 b1 b2 = .rolAbsx (concat16 b2 b1) := rfl
@[simp] theorem decode3_40 : decode3 0x40#8 b1 b2 = .rti := rfl
@[simp] theorem decode3_41 : decode3 0x41#8 b1 b2 = .eorIndx b1 := rfl
@[simp] theorem decode3_45 : decode3 0x45#8 b1 b2 = .eorZp b1 := rfl
@[simp] theorem decode3_46 : decode3 0x46#8 b1 b2 = .lsrZp b1 := rfl
@[simp] theorem decode3_48 : decode3 0x48#8 b1 b2 = .pha := rfl
@[simp] theorem decode3_49 : decode3 0x49#8 b1 b2 = .eorImm b1 := rfl
@[simp] theorem decode3_4A : decode3 0x4A#8 b1 b2 = .lsrAcc := rfl
@[simp] theorem decode3_4C : decode3 0x4C#8 b1 b2 = .jmpAbs (concat16 b2 b1) := rfl
@[simp] theorem decode3_4D : decode3 0x4D#8 b1 b2 = .eorAbs (concat16 b2 b1) := rfl
@[simp] theorem decode3_4E : decode3 0x4E#8 b1 b2 = .lsrAbs (concat16 b2 b1) := rfl
@[simp] theorem decode3_50 : decode3 0x50#8 b1 b2 = .bvc b1 := rfl
@[simp] theorem decode3_51 : decode3 0x51#8 b1 b2 = .eorIndy b1 := rfl
@[simp] theorem decode3_55 : decode3 0x55#8 b1 b2 = .eorZpx b1 := rfl
@[simp] theorem decode3_56 : decode3 0x56#8 b1 b2 = .lsrZpx b1 := rfl
@[simp] theorem decode3_58 : decode3 0x58#8 b1 b2 = .cli := rfl
@[simp] theorem decode3_59 : decode3 0x59#8 b1 b2 = .eorAbsy (concat16 b2 b1) := rfl
@[simp] theorem decode3_5D : decode3 0x5D#8 b1 b2 = .eorAbsx (concat16 b2 b1) := rfl
@[simp] theorem decode3_5E : decode3 0x5E#8 b1 b2 = .lsrAbsx (concat16 b2 b1) := rfl
@[simp] theorem decode3_60 : decode3 0x60#8 b1 b2 = .rts := rfl
@[simp] theorem decode3_61 : decode3 0x61#8 b1 b2 = .adcIndx b1 := rfl
@[simp] theorem decode3_65 : decode3 0x65#8 b1 b2 = .adcZp b1 := rfl
@[simp] theorem decode3_66 : decode3 0x66#8 b1 b2 = .rorZp b1 := rfl
@[simp] theorem decode3_68 : decode3 0x68#8 b1 b2 = .pla := rfl
@[simp] theorem decode3_69 : decode3 0x69#8 b1 b2 = .adcImm b1 := rfl
@[simp] theorem decode3_6A : decode3 0x6A#8 b1 b2 = .rorAcc := rfl
@[simp] theorem decode3_6C : decode3 0x6C#8 b1 b2 = .jmpInd (concat16 b2 b1) := rfl
@[simp] theorem decode3_6D : decode3 0x6D#8 b1 b2 = .adcAbs (concat16 b2 b1) := rfl
@[simp] theorem decode3_6E : decode3 0x6E#8 b1 b2 = .rorAbs (concat16 b2 b1) := rfl
@[simp] theorem decode3_70 : decode3 0x70#8 b1 b2 = .bvs b1 := rfl
@[simp] theorem decode3_71 : decode3 0x71#8 b1 b2 = .adcIndy b1 := rfl
@[simp] theorem decode3_75 : decode3 0x75#8 b1 b2 = .adcZpx b1 := rfl
@[simp] theorem decode3_76 : decode3 0x76#8 b1 b2 = .rorZpx b1 := rfl
@[simp] theorem decode3_78 : decode3 0x78#8 b1 b2 = .sei := rfl
@[simp] theorem decode3_79 : decode3 0x79#8 b1 b2 = .adcAbsy (concat16 b2 b1) := rfl
@[simp] theorem decode3_7D : decode3 0x7D#8 b1 b2 = .adcAbsx (concat16 b2 b1) := rfl
@[simp] theorem decode3_7E : decode3 0x7E#8 b1 b2 = .rorAbsx (concat16 b2 b1) := rfl
@[simp] theorem decode3_81 : decode3 0x81#8 b1 b2 = .staIndx b1 := rfl
@[simp] theorem decode3_84 : decode3 0x84#8 b1 b2 = .styZp b1 := rfl
@[simp] theorem decode3_85 : decode3 0x85#8 b1 b2 = .staZp b1 := rfl
@[simp] theorem decode3_86 : decode3 0x86#8 b1 b2 = .stxZp b1 := rfl
@[simp] theorem decode3_88 : decode3 0x88#8 b1 b2 = .dey := rfl
@[simp] theorem decode3_8A : decode3 0x8A#8 b1 b2 = .txa := rfl
@[simp] theorem decode3_8C : decode3 0x8C#8 b1 b2 = .styAbs (concat16 b2 b1) := rfl
@[simp] theorem decode3_8D : decode3 0x8D#8 b1 b2 = .staAbs (concat16 b2 b1) := rfl
@[simp] theorem decode3_8E : decode3 0x8E#8 b1 b2 = .stxAbs (concat16 b2 b1) := rfl
@[simp] theorem decode3_90 : decode3 0x90#8 b1 b2 = .bcc b1 := rfl
@[simp] theorem decode3_91 : decode3 0x91#8 b1 b2 = .staIndy b1 := rfl
@[simp] theorem decode3_94 : decode3 0x94#8 b1 b2 = .styZpx b1 := rfl
@[simp] theorem decode3_95 : decode3 0x95#8 b1 b2 = .staZpx b1 := rfl
@[simp] theorem decode3_96 : decode3 0x96#8 b1 b2 = .stxZpy b1 := rfl
@[simp] theorem decode3_98 : decode3 0x98#8 b1 b2 = .tya := rfl
@[simp] theorem decode3_99 : decode3 0x99#8 b1 b2 = .staAbsy (concat16 b2 b1) := rfl
@[simp] theorem decode3_9A : decode3 0x9A#8 b1 b2 = .txs := rfl
@[simp] theorem decode3_9D : decode3 0x9D#8 b1 b2 = .staAbsx (concat16 b2 b1) := rfl
@[simp] theorem decode3_A0 : decode3 0xA0#8 b1 b2 = .ldyImm b1 := rfl
@[simp] theorem decode3_A1 : decode3 0xA1#8 b1 b2 = .ldaIndx b1 := rfl
@[simp] theorem decode3_A2 : decode3 0xA2#8 b1 b2 = .ldxImm b1 := rfl
@[simp] theorem decode3_A4 : decode3 0xA4#8 b1 b2 = .ldyZp b1 := rfl
@[simp] theorem decode3_A5 : decode3 0xA5#8 b1 b2 = .ldaZp b1 := rfl
@[simp] theorem decode3_A6 : decode3 0xA6#8 b1 b2 = .ldxZp b1 := rfl
@[simp] theorem decode3_A8 : decode3 0xA8#8 b1 b2 = .tay := rfl
@[simp] theorem decode3_A9 : decode3 0xA9#8 b1 b2 = .ldaImm b1 := rfl
@[simp] theorem decode3_AA : decode3 0xAA#8 b1 b2 = .tax := rfl
@[simp] theorem decode3_AC : decode3 0xAC#8 b1 b2 = .ldyAbs (concat16 b2 b1) := rfl
@[simp] theorem decode3_AD : decode3 0xAD#8 b1 b2 = .ldaAbs (concat16 b2 b1) := rfl
@[simp] theorem decode3_AE : decode3 0xAE#8 b1 b2 = .ldxAbs (concat16 b2 b1) := rfl
@[simp] theorem decode3_B0 : decode3 0xB0#8 b1 b2 = .bcs b1 := rfl
@[simp] theorem decode3_B1 : decode3 0xB1#8 b1 b2 = .ldaIndy b1 := rfl
@[simp] theorem decode3_B4 : decode3 0xB4#8 b1 b2 = .ldyZpx b1 := rfl
@[simp] theorem decode3_B5 : decode3 0xB5#8 b1 b2 = .ldaZpx b1 := rfl
@[simp] theorem decode3_B6 : decode3 0xB6#8 b1 b2 = .ldxZpy b1 := rfl
@[simp] theorem decode3_B8 : decode3 0xB8#8 b1 b2 = .clv := rfl
@[simp] theorem decode3_B9 : decode3 0xB9#8 b1 b2 = .ldaAbsy (concat16 b2 b1) := rfl
@[simp] theorem decode3_BA : decode3 0xBA#8 b1 b2 = .tsx := rfl
@[simp] theorem decode3_BC : decode3 0xBC#8 b1 b2 = .ldyAbsx (concat16 b2 b1) := rfl
@[simp] theorem decode3_BD : decode3 0xBD#8 b1 b2 = .ldaAbsx (concat16 b2 b1) := rfl
@[simp] theorem decode3_BE : decode3 0xBE#8 b1 b2 = .ldxAbsy (concat16 b2 b1) := rfl
@[simp] theorem decode3_C0 : decode3 0xC0#8 b1 b2 = .cpyImm b1 := rfl
@[simp] theorem decode3_C1 : decode3 0xC1#8 b1 b2 = .cmpIndx b1 := rfl
@[simp] theorem decode3_C4 : decode3 0xC4#8 b1 b2 = .cpyZp b1 := rfl
@[simp] theorem decode3_C5 : decode3 0xC5#8 b1 b2 = .cmpZp b1 := rfl
@[simp] theorem decode3_C6 : decode3 0xC6#8 b1 b2 = .decZp b1 := rfl
@[simp] theorem decode3_C8 : decode3 0xC8#8 b1 b2 = .iny := rfl
@[simp] theorem decode3_C9 : decode3 0xC9#8 b1 b2 = .cmpImm b1 := rfl
@[simp] theorem decode3_CA : decode3 0xCA#8 b1 b2 = .dex := rfl
@[simp] theorem decode3_CC : decode3 0xCC#8 b1 b2 = .cpyAbs (concat16 b2 b1) := rfl
@[simp] theorem decode3_CD : decode3 0xCD#8 b1 b2 = .cmpAbs (concat16 b2 b1) := rfl
@[simp] theorem decode3_CE : decode3 0xCE#8 b1 b2 = .decAbs (concat16 b2 b1) := rfl
@[simp] theorem decode3_D0 : decode3 0xD0#8 b1 b2 = .bne b1 := rfl
@[simp] theorem decode3_D1 : decode3 0xD1#8 b1 b2 = .cmpIndy b1 := rfl
@[simp] theorem decode3_D5 : decode3 0xD5#8 b1 b2 = .cmpZpx b1 := rfl
@[simp] theorem decode3_D6 : decode3 0xD6#8 b1 b2 = .decZpx b1 := rfl
@[simp] theorem decode3_D8 : decode3 0xD8#8 b1 b2 = .cld := rfl
@[simp] theorem decode3_D9 : decode3 0xD9#8 b1 b2 = .cmpAbsy (concat16 b2 b1) := rfl
@[simp] theorem decode3_DD : decode3 0xDD#8 b1 b2 = .cmpAbsx (concat16 b2 b1) := rfl
@[simp] theorem decode3_DE : decode3 0xDE#8 b1 b2 = .decAbsx (concat16 b2 b1) := rfl
@[simp] theorem decode3_E0 : decode3 0xE0#8 b1 b2 = .cpxImm b1 := rfl
@[simp] theorem decode3_E1 : decode3 0xE1#8 b1 b2 = .sbcIndx b1 := rfl
@[simp] theorem decode3_E4 : decode3 0xE4#8 b1 b2 = .cpxZp b1 := rfl
@[simp] theorem decode3_E5 : decode3 0xE5#8 b1 b2 = .sbcZp b1 := rfl
@[simp] theorem decode3_E6 : decode3 0xE6#8 b1 b2 = .incZp b1 := rfl
@[simp] theorem decode3_E8 : decode3 0xE8#8 b1 b2 = .inx := rfl
@[simp] theorem decode3_E9 : decode3 0xE9#8 b1 b2 = .sbcImm b1 := rfl
@[simp] theorem decode3_EA : decode3 0xEA#8 b1 b2 = .nop := rfl
@[simp] theorem decode3_EC : decode3 0xEC#8 b1 b2 = .cpxAbs (concat16 b2 b1) := rfl
@[simp] theorem decode3_ED : decode3 0xED#8 b1 b2 = .sbcAbs (concat16 b2 b1) := rfl
@[simp] theorem decode3_EE : decode3 0xEE#8 b1 b2 = .incAbs (concat16 b2 b1) := rfl
@[simp] theorem decode3_F0 : decode3 0xF0#8 b1 b2 = .beq b1 := rfl
@[simp] theorem decode3_F1 : decode3 0xF1#8 b1 b2 = .sbcIndy b1 := rfl
@[simp] theorem decode3_F5 : decode3 0xF5#8 b1 b2 = .sbcZpx b1 := rfl
@[simp] theorem decode3_F6 : decode3 0xF6#8 b1 b2 = .incZpx b1 := rfl
@[simp] theorem decode3_F8 : decode3 0xF8#8 b1 b2 = .sed := rfl
@[simp] theorem decode3_F9 : decode3 0xF9#8 b1 b2 = .sbcAbsy (concat16 b2 b1) := rfl
@[simp] theorem decode3_FD : decode3 0xFD#8 b1 b2 = .sbcAbsx (concat16 b2 b1) := rfl
@[simp] theorem decode3_FE : decode3 0xFE#8 b1 b2 = .incAbsx (concat16 b2 b1) := rfl

end Sys2Proof
end

