-- ==== Sys2Proof/Laws/Memory.lean ====
section
/-! SUPPORT. The laws of the byte array: a read after a write, and that every operation keeps the canonical form. -/

namespace Sys2Proof.Machine

theorem Memory.read_erase (m : Memory) (a b : Nat) :
    Memory.read (Memory.erase a m) b = if b = a then Memory.unlisted else Memory.read m b := by
  induction m with
  | nil => simp [Memory.erase, Memory.read]
  | cons p m ih =>
    by_cases h : p.1 = a
    · simp only [Memory.erase, h, if_pos, ih, Memory.read]
      grind
    · simp only [Memory.erase, h, if_false, Memory.read, ih]
      grind

theorem Memory.read_put (m : Memory) (a b : Nat) (v : Byte) :
    Memory.read (Memory.put a v m) b = if b = a then v else Memory.read m b := by
  induction m with
  | nil => simp only [Memory.put, Memory.read]; grind
  | cons p m ih => simp only [Memory.put]; split_ifs <;> simp only [Memory.read, ih] <;> grind

/-- A read after a write: the byte written at its index, every other byte as before. -/
theorem Memory.read_write (m : Memory) (a b : Nat) (v : Byte) :
    Memory.read (Memory.write m a v) b = if b = a then v else Memory.read m b := by
  unfold Memory.write
  split_ifs with h h' <;> simp_all [Memory.read_erase, Memory.read_put]

/-- A read after storing a list of bytes from `base` upward. -/
theorem Memory.read_writeBytes (vs : List Byte) (m : Memory) (base b : Nat) :
    Memory.read (Memory.writeBytes m base vs) b =
      if base ≤ b ∧ b < base + vs.length then vs.getD (b - base) 0 else Memory.read m b := by
  induction vs generalizing m base with
  | nil => simp [Memory.writeBytes]
  | cons v vs ih =>
    rw [Memory.writeBytes, ih, Memory.read_write]
    rcases Nat.lt_trichotomy b base with h | rfl | h
    · rw [if_neg (by omega), if_neg (by omega), if_neg (by omega)]
    · rw [if_neg (by omega), if_pos rfl, if_pos (by simp)]
      simp
    · have e : b - base = (b - (base + 1)) + 1 := by omega
      simp only [List.length_cons]
      by_cases hb : b < base + (vs.length + 1)
      · rw [if_pos (by omega), if_pos (by omega), e]
        simp
      · rw [if_neg (by omega), if_neg (by omega), if_neg (by omega)]

theorem Memory.wf_erase {m : Memory} (h : Memory.wf m) (a : Nat) : Memory.wf (Memory.erase a m) := by
  have sub : ∀ m : Memory, (Memory.erase a m).Sublist m := by
    intro m
    induction m with
    | nil => exact .slnil
    | cons p m ih => unfold Memory.erase; split_ifs; exacts [ih.cons p, ih.cons_cons p]
  exact ⟨h.1.sublist (sub m), fun p hp => h.2 p ((sub m).mem hp)⟩

theorem Memory.mem_put {m : Memory} {a : Nat} {v : Byte} {p : Host.Cell} (h : p ∈ Memory.put a v m) : p = (a, v) ∨ p ∈ m := by
  induction m with
  | nil => simpa [Memory.put] using h
  | cons q m ih => unfold Memory.put at h; grind

theorem Memory.wf_put {m : Memory} (h : Memory.wf m) {a : Nat} {v : Byte} (ha : a < 65536) (hv : v ≠ Memory.unlisted) :
    Memory.wf (Memory.put a v m) := by
  refine ⟨?_, fun p hp => ?_⟩
  · obtain ⟨hs, -⟩ := h
    induction m with
    | nil => simp [Memory.put]
    | cons q m ih =>
      rw [List.pairwise_cons] at hs
      unfold Memory.put
      split_ifs with h1 h2
      · rw [List.pairwise_cons, List.pairwise_cons]
        refine ⟨fun p hp => ?_, hs⟩
        rcases List.mem_cons.1 hp with rfl | hp
        · exact h1
        · exact h1.trans (hs.1 p hp)
      · subst h2
        exact List.pairwise_cons.2 hs
      · refine List.pairwise_cons.2 ⟨fun p hp => ?_, ih hs.2⟩
        rcases Memory.mem_put hp with rfl | hp
        · show q.1 < a
          omega
        · exact hs.1 p hp
  · rcases Memory.mem_put hp with rfl | hp
    exacts [⟨ha, hv⟩, h.2 p hp]

/-- A write keeps the canonical form. -/
theorem Memory.wf_write {m : Memory} (h : Memory.wf m) {a : Nat} (ha : a < 65536) (v : Byte) : Memory.wf (Memory.write m a v) := by
  unfold Memory.write
  split_ifs with hv
  exacts [Memory.wf_erase h a, Memory.wf_put h ha hv]

/-- Storing a list of bytes inside the address space keeps the canonical form. -/
theorem Memory.wf_writeBytes (vs : List Byte) {m : Memory} (h : Memory.wf m) {base : Nat} (hb : base + vs.length ≤ 65536) :
    Memory.wf (Memory.writeBytes m base vs) := by
  induction vs generalizing m base with
  | nil => exact h
  | cons v vs ih =>
    rw [List.length_cons] at hb
    exact ih (Memory.wf_write h (by omega) v) (by omega)

theorem Memory.wf_nil : Memory.wf [] := ⟨.nil, by simp⟩

theorem Memory.read_eq_of_lt {m : Memory} {k : Nat} (h : ∀ p ∈ m, k < p.1) : Memory.read m k = Memory.unlisted := by
  induction m with
  | nil => rfl
  | cons p m ih =>
    have := h p (by simp)
    rw [Memory.read, if_neg (by omega)]
    exact ih fun q hq => h q (List.mem_cons_of_mem p hq)

/-- Equal memories are equal data: two canonical memories that read alike everywhere are the same list. -/
theorem Memory.ext_of_wf {m m' : Memory} (h : Memory.wf m) (h' : Memory.wf m') (e : ∀ a, Memory.read m a = Memory.read m' a) : m = m' := by
  induction m generalizing m' with
  | nil =>
    cases m' with
    | nil => rfl
    | cons p m' =>
      have := e p.1
      simp only [Memory.read, if_true] at this
      exact absurd this.symm (h'.2 p (by simp)).2
  | cons p m ih =>
    have hp := List.pairwise_cons.1 h.1
    cases m' with
    | nil =>
      have := e p.1
      simp only [Memory.read, if_true] at this
      exact absurd this (h.2 p (by simp)).2
    | cons q m' =>
      have hq := List.pairwise_cons.1 h'.1
      have key : p.1 = q.1 := by
        rcases Nat.lt_trichotomy p.1 q.1 with hlt | heq | hlt
        · have := e p.1
          rw [Memory.read_eq_of_lt (m := q :: m') (by
            intro r hr
            rcases List.mem_cons.1 hr with rfl | hr
            exacts [hlt, hlt.trans (hq.1 r hr)])] at this
          simp only [Memory.read, if_true] at this
          exact absurd this (h.2 p (by simp)).2
        · exact heq
        · have := e q.1
          rw [Memory.read_eq_of_lt (m := p :: m) (by
            intro r hr
            rcases List.mem_cons.1 hr with rfl | hr
            exacts [hlt, hlt.trans (hp.1 r hr)])] at this
          simp only [Memory.read, if_true] at this
          exact absurd this.symm (h'.2 q (by simp)).2
      have val : p.2 = q.2 := by
        have := e p.1
        simpa only [Memory.read, if_true, key] using this
      have hpq : p = q := Prod.ext key val
      subst hpq
      congr 1
      refine ih ⟨hp.2, fun r hr => h.2 r (List.mem_cons_of_mem p hr)⟩ ⟨hq.2, fun r hr => h'.2 r (List.mem_cons_of_mem p hr)⟩ fun a => ?_
      by_cases ha : p.1 = a
      · subst ha
        rw [Memory.read_eq_of_lt hp.1, Memory.read_eq_of_lt hq.1]
      · simpa only [Memory.read, ha, if_false] using e a

end Sys2Proof.Machine
end

