-- ==== Sys2Proof/Laws/State.lean ====
section
/-! SUPPORT. One lemma for each field of State under each named update, true by rfl, so that no proof unfolds a record update. -/

namespace Sys2Proof.Machine

variable (s : State)

/-! `setA`. -/
@[simp] theorem State.setA_a (v : Byte) : (s.setA v).a = v := rfl
@[simp] theorem State.setA_x (v : Byte) : (s.setA v).x = s.x := rfl
@[simp] theorem State.setA_y (v : Byte) : (s.setA v).y = s.y := rfl
@[simp] theorem State.setA_sp (v : Byte) : (s.setA v).sp = s.sp := rfl
@[simp] theorem State.setA_pc (v : Byte) : (s.setA v).pc = s.pc := rfl
@[simp] theorem State.setA_flags (v : Byte) : (s.setA v).flags = s.flags := rfl
@[simp] theorem State.setA_mem (v : Byte) : (s.setA v).mem = s.mem := rfl
@[simp] theorem State.setA_ppu (v : Byte) : (s.setA v).ppu = s.ppu := rfl
@[simp] theorem State.setA_nmiPending (v : Byte) : (s.setA v).nmiPending = s.nmiPending := rfl
@[simp] theorem State.setA_halted (v : Byte) : (s.setA v).halted = s.halted := rfl
@[simp] theorem State.setA_faultInfo (v : Byte) : (s.setA v).faultInfo = s.faultInfo := rfl
@[simp] theorem State.setA_cycles (v : Byte) : (s.setA v).cycles = s.cycles := rfl
@[simp] theorem State.setA_budget (v : Byte) : (s.setA v).budget = s.budget := rfl
@[simp] theorem State.setA_resetDone (v : Byte) : (s.setA v).resetDone = s.resetDone := rfl

/-! `setX`. -/
@[simp] theorem State.setX_a (v : Byte) : (s.setX v).a = s.a := rfl
@[simp] theorem State.setX_x (v : Byte) : (s.setX v).x = v := rfl
@[simp] theorem State.setX_y (v : Byte) : (s.setX v).y = s.y := rfl
@[simp] theorem State.setX_sp (v : Byte) : (s.setX v).sp = s.sp := rfl
@[simp] theorem State.setX_pc (v : Byte) : (s.setX v).pc = s.pc := rfl
@[simp] theorem State.setX_flags (v : Byte) : (s.setX v).flags = s.flags := rfl
@[simp] theorem State.setX_mem (v : Byte) : (s.setX v).mem = s.mem := rfl
@[simp] theorem State.setX_ppu (v : Byte) : (s.setX v).ppu = s.ppu := rfl
@[simp] theorem State.setX_nmiPending (v : Byte) : (s.setX v).nmiPending = s.nmiPending := rfl
@[simp] theorem State.setX_halted (v : Byte) : (s.setX v).halted = s.halted := rfl
@[simp] theorem State.setX_faultInfo (v : Byte) : (s.setX v).faultInfo = s.faultInfo := rfl
@[simp] theorem State.setX_cycles (v : Byte) : (s.setX v).cycles = s.cycles := rfl
@[simp] theorem State.setX_budget (v : Byte) : (s.setX v).budget = s.budget := rfl
@[simp] theorem State.setX_resetDone (v : Byte) : (s.setX v).resetDone = s.resetDone := rfl

/-! `setY`. -/
@[simp] theorem State.setY_a (v : Byte) : (s.setY v).a = s.a := rfl
@[simp] theorem State.setY_x (v : Byte) : (s.setY v).x = s.x := rfl
@[simp] theorem State.setY_y (v : Byte) : (s.setY v).y = v := rfl
@[simp] theorem State.setY_sp (v : Byte) : (s.setY v).sp = s.sp := rfl
@[simp] theorem State.setY_pc (v : Byte) : (s.setY v).pc = s.pc := rfl
@[simp] theorem State.setY_flags (v : Byte) : (s.setY v).flags = s.flags := rfl
@[simp] theorem State.setY_mem (v : Byte) : (s.setY v).mem = s.mem := rfl
@[simp] theorem State.setY_ppu (v : Byte) : (s.setY v).ppu = s.ppu := rfl
@[simp] theorem State.setY_nmiPending (v : Byte) : (s.setY v).nmiPending = s.nmiPending := rfl
@[simp] theorem State.setY_halted (v : Byte) : (s.setY v).halted = s.halted := rfl
@[simp] theorem State.setY_faultInfo (v : Byte) : (s.setY v).faultInfo = s.faultInfo := rfl
@[simp] theorem State.setY_cycles (v : Byte) : (s.setY v).cycles = s.cycles := rfl
@[simp] theorem State.setY_budget (v : Byte) : (s.setY v).budget = s.budget := rfl
@[simp] theorem State.setY_resetDone (v : Byte) : (s.setY v).resetDone = s.resetDone := rfl

/-! `setSp`. -/
@[simp] theorem State.setSp_a (v : Byte) : (s.setSp v).a = s.a := rfl
@[simp] theorem State.setSp_x (v : Byte) : (s.setSp v).x = s.x := rfl
@[simp] theorem State.setSp_y (v : Byte) : (s.setSp v).y = s.y := rfl
@[simp] theorem State.setSp_sp (v : Byte) : (s.setSp v).sp = v := rfl
@[simp] theorem State.setSp_pc (v : Byte) : (s.setSp v).pc = s.pc := rfl
@[simp] theorem State.setSp_flags (v : Byte) : (s.setSp v).flags = s.flags := rfl
@[simp] theorem State.setSp_mem (v : Byte) : (s.setSp v).mem = s.mem := rfl
@[simp] theorem State.setSp_ppu (v : Byte) : (s.setSp v).ppu = s.ppu := rfl
@[simp] theorem State.setSp_nmiPending (v : Byte) : (s.setSp v).nmiPending = s.nmiPending := rfl
@[simp] theorem State.setSp_halted (v : Byte) : (s.setSp v).halted = s.halted := rfl
@[simp] theorem State.setSp_faultInfo (v : Byte) : (s.setSp v).faultInfo = s.faultInfo := rfl
@[simp] theorem State.setSp_cycles (v : Byte) : (s.setSp v).cycles = s.cycles := rfl
@[simp] theorem State.setSp_budget (v : Byte) : (s.setSp v).budget = s.budget := rfl
@[simp] theorem State.setSp_resetDone (v : Byte) : (s.setSp v).resetDone = s.resetDone := rfl

/-! `setPc`. -/
@[simp] theorem State.setPc_a (p : Addr) : (s.setPc p).a = s.a := rfl
@[simp] theorem State.setPc_x (p : Addr) : (s.setPc p).x = s.x := rfl
@[simp] theorem State.setPc_y (p : Addr) : (s.setPc p).y = s.y := rfl
@[simp] theorem State.setPc_sp (p : Addr) : (s.setPc p).sp = s.sp := rfl
@[simp] theorem State.setPc_pc (p : Addr) : (s.setPc p).pc = p := rfl
@[simp] theorem State.setPc_flags (p : Addr) : (s.setPc p).flags = s.flags := rfl
@[simp] theorem State.setPc_mem (p : Addr) : (s.setPc p).mem = s.mem := rfl
@[simp] theorem State.setPc_ppu (p : Addr) : (s.setPc p).ppu = s.ppu := rfl
@[simp] theorem State.setPc_nmiPending (p : Addr) : (s.setPc p).nmiPending = s.nmiPending := rfl
@[simp] theorem State.setPc_halted (p : Addr) : (s.setPc p).halted = s.halted := rfl
@[simp] theorem State.setPc_faultInfo (p : Addr) : (s.setPc p).faultInfo = s.faultInfo := rfl
@[simp] theorem State.setPc_cycles (p : Addr) : (s.setPc p).cycles = s.cycles := rfl
@[simp] theorem State.setPc_budget (p : Addr) : (s.setPc p).budget = s.budget := rfl
@[simp] theorem State.setPc_resetDone (p : Addr) : (s.setPc p).resetDone = s.resetDone := rfl

/-! `setFlags`. -/
@[simp] theorem State.setFlags_a (f : Flags) : (s.setFlags f).a = s.a := rfl
@[simp] theorem State.setFlags_x (f : Flags) : (s.setFlags f).x = s.x := rfl
@[simp] theorem State.setFlags_y (f : Flags) : (s.setFlags f).y = s.y := rfl
@[simp] theorem State.setFlags_sp (f : Flags) : (s.setFlags f).sp = s.sp := rfl
@[simp] theorem State.setFlags_pc (f : Flags) : (s.setFlags f).pc = s.pc := rfl
@[simp] theorem State.setFlags_flags (f : Flags) : (s.setFlags f).flags = f := rfl
@[simp] theorem State.setFlags_mem (f : Flags) : (s.setFlags f).mem = s.mem := rfl
@[simp] theorem State.setFlags_ppu (f : Flags) : (s.setFlags f).ppu = s.ppu := rfl
@[simp] theorem State.setFlags_nmiPending (f : Flags) : (s.setFlags f).nmiPending = s.nmiPending := rfl
@[simp] theorem State.setFlags_halted (f : Flags) : (s.setFlags f).halted = s.halted := rfl
@[simp] theorem State.setFlags_faultInfo (f : Flags) : (s.setFlags f).faultInfo = s.faultInfo := rfl
@[simp] theorem State.setFlags_cycles (f : Flags) : (s.setFlags f).cycles = s.cycles := rfl
@[simp] theorem State.setFlags_budget (f : Flags) : (s.setFlags f).budget = s.budget := rfl
@[simp] theorem State.setFlags_resetDone (f : Flags) : (s.setFlags f).resetDone = s.resetDone := rfl

/-! `busWrite` writes `mem` and `ppu` only (20_memory.md R47). -/
@[simp] theorem State.busWrite_a (addr : Addr) (v : Byte) : (s.busWrite addr v).a = s.a := rfl
@[simp] theorem State.busWrite_x (addr : Addr) (v : Byte) : (s.busWrite addr v).x = s.x := rfl
@[simp] theorem State.busWrite_y (addr : Addr) (v : Byte) : (s.busWrite addr v).y = s.y := rfl
@[simp] theorem State.busWrite_sp (addr : Addr) (v : Byte) : (s.busWrite addr v).sp = s.sp := rfl
@[simp] theorem State.busWrite_pc (addr : Addr) (v : Byte) : (s.busWrite addr v).pc = s.pc := rfl
@[simp] theorem State.busWrite_flags (addr : Addr) (v : Byte) : (s.busWrite addr v).flags = s.flags := rfl
@[simp] theorem State.busWrite_mem (addr : Addr) (v : Byte) : (s.busWrite addr v).mem = Memory.write s.mem (mirror addr).toNat v := rfl
@[simp] theorem State.busWrite_ppu (addr : Addr) (v : Byte) : (s.busWrite addr v).ppu = s.ppu.busWrite (mirror addr) v := rfl
@[simp] theorem State.busWrite_nmiPending (addr : Addr) (v : Byte) : (s.busWrite addr v).nmiPending = s.nmiPending := rfl
@[simp] theorem State.busWrite_halted (addr : Addr) (v : Byte) : (s.busWrite addr v).halted = s.halted := rfl
@[simp] theorem State.busWrite_faultInfo (addr : Addr) (v : Byte) : (s.busWrite addr v).faultInfo = s.faultInfo := rfl
@[simp] theorem State.busWrite_cycles (addr : Addr) (v : Byte) : (s.busWrite addr v).cycles = s.cycles := rfl
@[simp] theorem State.busWrite_budget (addr : Addr) (v : Byte) : (s.busWrite addr v).budget = s.budget := rfl
@[simp] theorem State.busWrite_resetDone (addr : Addr) (v : Byte) : (s.busWrite addr v).resetDone = s.resetDone := rfl

/-! `advance` writes `pc` only (10_state.md R13). -/
@[simp] theorem State.advance_a (i : Instr) : (s.advance i).a = s.a := rfl
@[simp] theorem State.advance_x (i : Instr) : (s.advance i).x = s.x := rfl
@[simp] theorem State.advance_y (i : Instr) : (s.advance i).y = s.y := rfl
@[simp] theorem State.advance_sp (i : Instr) : (s.advance i).sp = s.sp := rfl
@[simp] theorem State.advance_pc (i : Instr) : (s.advance i).pc = s.pc + BitVec.ofNat 16 i.length := rfl
@[simp] theorem State.advance_flags (i : Instr) : (s.advance i).flags = s.flags := rfl
@[simp] theorem State.advance_mem (i : Instr) : (s.advance i).mem = s.mem := rfl
@[simp] theorem State.advance_ppu (i : Instr) : (s.advance i).ppu = s.ppu := rfl
@[simp] theorem State.advance_nmiPending (i : Instr) : (s.advance i).nmiPending = s.nmiPending := rfl
@[simp] theorem State.advance_halted (i : Instr) : (s.advance i).halted = s.halted := rfl
@[simp] theorem State.advance_faultInfo (i : Instr) : (s.advance i).faultInfo = s.faultInfo := rfl
@[simp] theorem State.advance_cycles (i : Instr) : (s.advance i).cycles = s.cycles := rfl
@[simp] theorem State.advance_budget (i : Instr) : (s.advance i).budget = s.budget := rfl
@[simp] theorem State.advance_resetDone (i : Instr) : (s.advance i).resetDone = s.resetDone := rfl

/-! `charge` writes the two counters only (70_reset_and_hazards.md R280). -/
@[simp] theorem State.charge_a (n : Nat) : (s.charge n).a = s.a := rfl
@[simp] theorem State.charge_x (n : Nat) : (s.charge n).x = s.x := rfl
@[simp] theorem State.charge_y (n : Nat) : (s.charge n).y = s.y := rfl
@[simp] theorem State.charge_sp (n : Nat) : (s.charge n).sp = s.sp := rfl
@[simp] theorem State.charge_pc (n : Nat) : (s.charge n).pc = s.pc := rfl
@[simp] theorem State.charge_flags (n : Nat) : (s.charge n).flags = s.flags := rfl
@[simp] theorem State.charge_mem (n : Nat) : (s.charge n).mem = s.mem := rfl
@[simp] theorem State.charge_ppu (n : Nat) : (s.charge n).ppu = s.ppu := rfl
@[simp] theorem State.charge_nmiPending (n : Nat) : (s.charge n).nmiPending = s.nmiPending := rfl
@[simp] theorem State.charge_halted (n : Nat) : (s.charge n).halted = s.halted := rfl
@[simp] theorem State.charge_faultInfo (n : Nat) : (s.charge n).faultInfo = s.faultInfo := rfl
@[simp] theorem State.charge_cycles (n : Nat) : (s.charge n).cycles = s.cycles + n := rfl
@[simp] theorem State.charge_budget (n : Nat) : (s.charge n).budget = s.budget - n := rfl
@[simp] theorem State.charge_resetDone (n : Nat) : (s.charge n).resetDone = s.resetDone := rfl

/-! `raiseIllegal` writes `halted`, `faultInfo` and `pc` only (60_exceptions.md R231). -/
@[simp] theorem State.raiseIllegal_a (op : Byte) : (s.raiseIllegal op).a = s.a := rfl
@[simp] theorem State.raiseIllegal_x (op : Byte) : (s.raiseIllegal op).x = s.x := rfl
@[simp] theorem State.raiseIllegal_y (op : Byte) : (s.raiseIllegal op).y = s.y := rfl
@[simp] theorem State.raiseIllegal_sp (op : Byte) : (s.raiseIllegal op).sp = s.sp := rfl
@[simp] theorem State.raiseIllegal_pc (op : Byte) : (s.raiseIllegal op).pc = s.pc - 1 := rfl
@[simp] theorem State.raiseIllegal_flags (op : Byte) : (s.raiseIllegal op).flags = s.flags := rfl
@[simp] theorem State.raiseIllegal_mem (op : Byte) : (s.raiseIllegal op).mem = s.mem := rfl
@[simp] theorem State.raiseIllegal_ppu (op : Byte) : (s.raiseIllegal op).ppu = s.ppu := rfl
@[simp] theorem State.raiseIllegal_nmiPending (op : Byte) : (s.raiseIllegal op).nmiPending = s.nmiPending := rfl
@[simp] theorem State.raiseIllegal_halted (op : Byte) : (s.raiseIllegal op).halted = true := rfl
@[simp] theorem State.raiseIllegal_faultInfo (op : Byte) : (s.raiseIllegal op).faultInfo = some ⟨op, s.pc - 1, s.cycles⟩ := rfl
@[simp] theorem State.raiseIllegal_cycles (op : Byte) : (s.raiseIllegal op).cycles = s.cycles := rfl
@[simp] theorem State.raiseIllegal_budget (op : Byte) : (s.raiseIllegal op).budget = s.budget := rfl
@[simp] theorem State.raiseIllegal_resetDone (op : Byte) : (s.raiseIllegal op).resetDone = s.resetDone := rfl

end Sys2Proof.Machine
end

