-- ==== Sys2Proof/Laws/Bus.lean ====
section
/-! SUPPORT. The laws of mirroring, bus and stack: what each shared operation of Machine/Ops.lean can do, said once. -/

namespace Sys2Proof.Machine

/-! Mirroring (20_memory.md R42). -/

theorem mirror_toNat (a : Addr) :
    (mirror a).toNat =
      if a.toNat ≤ 0x1FFF then a.toNat % 0x800 else if a.toNat ≤ 0x3FFF then 0x2000 + a.toNat % 8 else a.toNat := by
  unfold mirror
  split_ifs
  · rw [BitVec.toNat_and]
    exact Nat.and_two_pow_sub_one_eq_mod a.toNat 11
  · rw [BitVec.toNat_or, BitVec.toNat_and]
    rw [show a.toNat &&& BitVec.toNat (0x0007 : Addr) = a.toNat % 8 from Nat.and_two_pow_sub_one_eq_mod a.toNat 3]
    have h : a.toNat % 8 < 2 ^ 13 := by omega
    exact (Nat.two_pow_add_eq_or_of_lt h 1).symm
  · rfl

theorem mirror_lt (a : Addr) : (mirror a).toNat < 65536 := (mirror a).isLt

/-- A canonical address is its own mirror (R43). -/
theorem mirror_of_canonical {a : Addr} (h : a.toNat < 0x800 ∨ 0x2000 ≤ a.toNat ∧ a.toNat < 0x2008 ∨ 0x4000 ≤ a.toNat) : mirror a = a := by
  apply BitVec.eq_of_toNat_eq
  rw [mirror_toNat]
  split_ifs <;> omega

theorem mirror_canonical (a : Addr) :
    (mirror a).toNat < 0x800 ∨ 0x2000 ≤ (mirror a).toNat ∧ (mirror a).toNat < 0x2008 ∨ 0x4000 ≤ (mirror a).toNat := by
  rw [mirror_toNat]
  split_ifs <;> omega

/-! The bus (R46, R47). -/

theorem State.busRead_eq_rawRead (s : State) (a : Addr) : s.busRead a = s.rawRead (mirror a) := rfl

/-- The whole array after a bus write: one byte changes, the one at the canonical address. -/
@[simp] theorem State.rawRead_busWrite (s : State) (a b : Addr) (v : Byte) :
    (s.busWrite a v).rawRead b = if b = mirror a then v else s.rawRead b := by
  simp only [State.rawRead, State.busWrite_mem, Memory.read_write, BitVec.toNat_inj]

/-! Updates that do not write memory do not change a read. -/

@[simp] theorem State.rawRead_setA (s : State) (v : Byte) (a : Addr) : (s.setA v).rawRead a = s.rawRead a := rfl
@[simp] theorem State.rawRead_setX (s : State) (v : Byte) (a : Addr) : (s.setX v).rawRead a = s.rawRead a := rfl
@[simp] theorem State.rawRead_setY (s : State) (v : Byte) (a : Addr) : (s.setY v).rawRead a = s.rawRead a := rfl
@[simp] theorem State.rawRead_setSp (s : State) (v : Byte) (a : Addr) : (s.setSp v).rawRead a = s.rawRead a := rfl
@[simp] theorem State.rawRead_setPc (s : State) (p : Addr) (a : Addr) : (s.setPc p).rawRead a = s.rawRead a := rfl
@[simp] theorem State.rawRead_setFlags (s : State) (f : Flags) (a : Addr) : (s.setFlags f).rawRead a = s.rawRead a := rfl
@[simp] theorem State.rawRead_advance (s : State) (i : Instr) (a : Addr) : (s.advance i).rawRead a = s.rawRead a := rfl
@[simp] theorem State.rawRead_charge (s : State) (n : Nat) (a : Addr) : (s.charge n).rawRead a = s.rawRead a := rfl

/-! The PPU window (R52 to R59). -/

/-- Only the five register addresses have a write side effect (R64). -/
theorem Ppu.busWrite_of_ne (p : Ppu) (v : Byte) {c : Addr} (h : c.toNat < 0x2000 ∨ 0x2007 < c.toNat) : p.busWrite c v = p := by
  have ne : ∀ k : Addr, 0x2000 ≤ k.toNat ∧ k.toNat ≤ 0x2007 → c ≠ k := by rintro k hk rfl; omega
  unfold Ppu.busWrite
  rw [if_neg (ne 0x2000 (by decide)), if_neg (ne 0x2001 (by decide)), if_neg (ne 0x2005 (by decide)), if_neg (ne 0x2006 (by decide)),
    if_neg (ne 0x2007 (by decide))]

theorem Ppu.masked_le (a : Addr) : (a &&& Ppu.addrMask).toNat ≤ 0x3FFF := by
  rw [BitVec.toNat_and]
  exact Nat.and_le_right

/-- PPUADDR stays in 0x0000 to 0x3FFF (10_state.md R34). -/
theorem Ppu.busWrite_addr_le {p : Ppu} (h : p.addr.toNat ≤ 0x3FFF) (c : Addr) (v : Byte) : (p.busWrite c v).addr.toNat ≤ 0x3FFF := by
  unfold Ppu.busWrite Ppu.writeScroll Ppu.writeAddr Ppu.increment
  split_ifs <;> first | exact h | exact Ppu.masked_le _

/-! The stack (10_state.md R25 to R29). -/

theorem stackAddr_toNat (sp : Byte) : (stackAddr sp).toNat = 0x100 + sp.toNat := by
  have := sp.isLt
  rw [stackAddr, zext16, BitVec.toNat_add, BitVec.toNat_setWidth, show BitVec.toNat (0x0100 : Addr) = 0x100 from rfl]
  omega

/-- The stack page is canonical (R25). -/
@[simp] theorem mirror_stackAddr (sp : Byte) : mirror (stackAddr sp) = stackAddr sp :=
  mirror_of_canonical (by rw [stackAddr_toNat]; have := sp.isLt; omega)

@[simp] theorem stackAddr_inj (p q : Byte) : stackAddr p = stackAddr q ↔ p = q := by
  rw [← BitVec.toNat_inj, stackAddr_toNat, stackAddr_toNat, Nat.add_left_cancel_iff, BitVec.toNat_inj]

/-- A write to the stack page has no side effect. -/
@[simp] theorem Ppu.busWrite_stackAddr (p : Ppu) (sp v : Byte) : p.busWrite (stackAddr sp) v = p :=
  Ppu.busWrite_of_ne p v (by rw [stackAddr_toNat]; have := sp.isLt; omega)

/-- What a push leaves: memory, and `S` one lower (R26). -/
theorem State.push8_eq (s : State) (v : Byte) :
    s.push8 v = { s with sp := s.sp - 1, mem := Memory.write s.mem (stackAddr s.sp).toNat v } := by
  simp [State.push8, State.busWrite, State.setSp]

@[simp] theorem State.rawRead_push8 (s : State) (v : Byte) (b : Addr) :
    (s.push8 v).rawRead b = if b = stackAddr s.sp then v else s.rawRead b := by
  simp [State.push8]

@[simp] theorem State.pull8_fst (s : State) : s.pull8.1 = s.rawRead (stackAddr (s.sp + 1)) := by
  simp [State.pull8, State.busRead_eq_rawRead]

@[simp] theorem State.pull8_snd (s : State) : s.pull8.2 = s.setSp (s.sp + 1) := rfl

/-- What a 16-bit push leaves (R28). -/
theorem State.push16_eq (s : State) (v : Addr) : s.push16 v = { s with sp := s.sp - 1 - 1, mem := (s.push16 v).mem } := by
  simp [State.push16, State.push8_eq]

@[simp] theorem State.rawRead_push16 (s : State) (v b : Addr) :
    (s.push16 v).rawRead b =
      if b = stackAddr (s.sp - 1) then lowByte v else if b = stackAddr s.sp then highByte v else s.rawRead b := by
  rw [State.push16, State.rawRead_push8, State.rawRead_push8]
  simp [State.push8_eq]

@[simp] theorem State.pull16_fst (s : State) :
    s.pull16.1 = concat16 (s.rawRead (stackAddr (s.sp + 1 + 1))) (s.rawRead (stackAddr (s.sp + 1))) := by
  simp [State.pull16]

@[simp] theorem State.pull16_snd (s : State) : s.pull16.2 = s.setSp (s.sp + 1 + 1) := rfl

/-- What taking a trap does: three bytes pushed, `I` set, `PC` from the vector; nothing else (60_exceptions.md R241). -/
theorem State.enterTrap_eq (s : State) (ret : Addr) (brk : Bool) (vector : Addr) :
    s.enterTrap ret brk vector =
      { s with sp := s.sp - 3, flags := { s.flags with i := true }, mem := (s.enterTrap ret brk vector).mem
               pc := (s.enterTrap ret brk vector).busRead16 vector } := by
  simp only [State.enterTrap]
  rw [State.push8_eq, State.push16_eq]
  simp [State.setFlags, State.setPc, State.busRead16, State.busRead, BitVec.sub_sub]

/-! The other fields after a push, after taking a trap, after a branch. -/

@[simp] theorem State.push8_sp (s : State) (v : Byte) : (s.push8 v).sp = s.sp - 1 := by rw [State.push8_eq]
@[simp] theorem State.push8_a (s : State) (v : Byte) : (s.push8 v).a = s.a := by rw [State.push8_eq]
@[simp] theorem State.push8_x (s : State) (v : Byte) : (s.push8 v).x = s.x := by rw [State.push8_eq]
@[simp] theorem State.push8_y (s : State) (v : Byte) : (s.push8 v).y = s.y := by rw [State.push8_eq]
@[simp] theorem State.push8_pc (s : State) (v : Byte) : (s.push8 v).pc = s.pc := by rw [State.push8_eq]
@[simp] theorem State.push8_flags (s : State) (v : Byte) : (s.push8 v).flags = s.flags := by rw [State.push8_eq]
@[simp] theorem State.push8_ppu (s : State) (v : Byte) : (s.push8 v).ppu = s.ppu := by rw [State.push8_eq]
@[simp] theorem State.push8_nmiPending (s : State) (v : Byte) : (s.push8 v).nmiPending = s.nmiPending := by rw [State.push8_eq]
@[simp] theorem State.push8_halted (s : State) (v : Byte) : (s.push8 v).halted = s.halted := by rw [State.push8_eq]
@[simp] theorem State.push8_faultInfo (s : State) (v : Byte) : (s.push8 v).faultInfo = s.faultInfo := by rw [State.push8_eq]
@[simp] theorem State.push8_cycles (s : State) (v : Byte) : (s.push8 v).cycles = s.cycles := by rw [State.push8_eq]
@[simp] theorem State.push8_budget (s : State) (v : Byte) : (s.push8 v).budget = s.budget := by rw [State.push8_eq]
@[simp] theorem State.push8_resetDone (s : State) (v : Byte) : (s.push8 v).resetDone = s.resetDone := by rw [State.push8_eq]

@[simp] theorem State.push16_sp (s : State) (v : Addr) : (s.push16 v).sp = s.sp - 2 := by
  simp only [State.push16, State.push8_sp, BitVec.sub_sub]; rfl
@[simp] theorem State.push16_a (s : State) (v : Addr) : (s.push16 v).a = s.a := by rw [State.push16_eq]
@[simp] theorem State.push16_x (s : State) (v : Addr) : (s.push16 v).x = s.x := by rw [State.push16_eq]
@[simp] theorem State.push16_y (s : State) (v : Addr) : (s.push16 v).y = s.y := by rw [State.push16_eq]
@[simp] theorem State.push16_pc (s : State) (v : Addr) : (s.push16 v).pc = s.pc := by rw [State.push16_eq]
@[simp] theorem State.push16_flags (s : State) (v : Addr) : (s.push16 v).flags = s.flags := by rw [State.push16_eq]
@[simp] theorem State.push16_ppu (s : State) (v : Addr) : (s.push16 v).ppu = s.ppu := by rw [State.push16_eq]
@[simp] theorem State.push16_nmiPending (s : State) (v : Addr) : (s.push16 v).nmiPending = s.nmiPending := by rw [State.push16_eq]
@[simp] theorem State.push16_halted (s : State) (v : Addr) : (s.push16 v).halted = s.halted := by rw [State.push16_eq]
@[simp] theorem State.push16_faultInfo (s : State) (v : Addr) : (s.push16 v).faultInfo = s.faultInfo := by rw [State.push16_eq]
@[simp] theorem State.push16_cycles (s : State) (v : Addr) : (s.push16 v).cycles = s.cycles := by rw [State.push16_eq]
@[simp] theorem State.push16_budget (s : State) (v : Addr) : (s.push16 v).budget = s.budget := by rw [State.push16_eq]
@[simp] theorem State.push16_resetDone (s : State) (v : Addr) : (s.push16 v).resetDone = s.resetDone := by rw [State.push16_eq]

@[simp] theorem State.enterTrap_sp (s : State) (ret : Addr) (brk : Bool) (vector : Addr) : (s.enterTrap ret brk vector).sp = s.sp - 3 := by
  rw [State.enterTrap_eq]
@[simp] theorem State.enterTrap_flags (s : State) (ret : Addr) (brk : Bool) (vector : Addr) :
    (s.enterTrap ret brk vector).flags = { s.flags with i := true } := by rw [State.enterTrap_eq]
@[simp] theorem State.enterTrap_a (s : State) (ret : Addr) (brk : Bool) (vector : Addr) : (s.enterTrap ret brk vector).a = s.a := by
  rw [State.enterTrap_eq]
@[simp] theorem State.enterTrap_x (s : State) (ret : Addr) (brk : Bool) (vector : Addr) : (s.enterTrap ret brk vector).x = s.x := by
  rw [State.enterTrap_eq]
@[simp] theorem State.enterTrap_y (s : State) (ret : Addr) (brk : Bool) (vector : Addr) : (s.enterTrap ret brk vector).y = s.y := by
  rw [State.enterTrap_eq]
@[simp] theorem State.enterTrap_ppu (s : State) (ret : Addr) (brk : Bool) (vector : Addr) : (s.enterTrap ret brk vector).ppu = s.ppu := by
  rw [State.enterTrap_eq]
@[simp] theorem State.enterTrap_nmiPending (s : State) (ret : Addr) (brk : Bool) (vector : Addr) : (s.enterTrap ret brk vector).nmiPending = s.nmiPending := by
  rw [State.enterTrap_eq]
@[simp] theorem State.enterTrap_halted (s : State) (ret : Addr) (brk : Bool) (vector : Addr) : (s.enterTrap ret brk vector).halted = s.halted := by
  rw [State.enterTrap_eq]
@[simp] theorem State.enterTrap_faultInfo (s : State) (ret : Addr) (brk : Bool) (vector : Addr) : (s.enterTrap ret brk vector).faultInfo = s.faultInfo := by
  rw [State.enterTrap_eq]
@[simp] theorem State.enterTrap_cycles (s : State) (ret : Addr) (brk : Bool) (vector : Addr) : (s.enterTrap ret brk vector).cycles = s.cycles := by
  rw [State.enterTrap_eq]
@[simp] theorem State.enterTrap_budget (s : State) (ret : Addr) (brk : Bool) (vector : Addr) : (s.enterTrap ret brk vector).budget = s.budget := by
  rw [State.enterTrap_eq]
@[simp] theorem State.enterTrap_resetDone (s : State) (ret : Addr) (brk : Bool) (vector : Addr) : (s.enterTrap ret brk vector).resetDone = s.resetDone := by
  rw [State.enterTrap_eq]

/-- Memory after taking a trap: the three pushed bytes, every other byte as before. -/
@[simp] theorem State.rawRead_enterTrap (s : State) (ret : Addr) (brk : Bool) (vector b : Addr) :
    (s.enterTrap ret brk vector).rawRead b =
      if b = stackAddr (s.sp - 2) then s.flags.statusByte brk
      else if b = stackAddr (s.sp - 1) then lowByte ret
      else if b = stackAddr s.sp then highByte ret
      else s.rawRead b := by
  simp only [State.enterTrap, State.rawRead_setPc, State.rawRead_setFlags, State.rawRead_push8, State.rawRead_push16, State.push16_sp]

/-- A branch changes `PC` at most (45_control_flow.md R203). -/
theorem State.branch_eq (s : State) (cond : Cond) (off : Byte) :
    s.branch cond off = { s with pc := if s.flags.holds cond then branchTarget off s else s.pc } := by
  unfold State.branch
  split <;> rfl

end Sys2Proof.Machine
end

