-- ==== Sys2Proof/Laws/Cycles.lean ====
section
/-! SUPPORT. Which modes cross a page, and what a penalty can be. -/

namespace Sys2Proof.Machine

@[simp] theorem pagesDiffer_self (a : Addr) : pagesDiffer a a = false := by simp [pagesDiffer]

/-! A mode without a 16-bit index addition never crosses (40_addressing_modes.md R104 to R107, R110). -/

@[simp] theorem crossed_zp (z : Byte) (s : State) : MemOperand.crossed (.zp z) s = false := pagesDiffer_self _
@[simp] theorem crossed_zpx (z : Byte) (s : State) : MemOperand.crossed (.zpx z) s = false := pagesDiffer_self _
@[simp] theorem crossed_zpy (z : Byte) (s : State) : MemOperand.crossed (.zpy z) s = false := pagesDiffer_self _
@[simp] theorem crossed_abs (a : Addr) (s : State) : MemOperand.crossed (.abs a) s = false := pagesDiffer_self _
@[simp] theorem crossed_indx (z : Byte) (s : State) : MemOperand.crossed (.indx z) s = false := pagesDiffer_self _

/-- A penalty is at most the 2 cycles of a taken branch into another page (70_reset_and_hazards.md R283). -/
theorem cyclePenalty_le (i : Instr) (s : State) : cyclePenalty i s ≤ 2 := by
  unfold cyclePenalty
  split <;> repeat' split
  all_goals omega

end Sys2Proof.Machine
end

