-- ==== Sys2Proof/Laws/Flags.lean ====
section
/-! SUPPORT. The laws of the flag computations. -/

namespace Sys2Proof.Machine

theorem getLsbD7_eq (v : Byte) : v.getLsbD 7 = decide (128 ≤ v.toNat) := by
  have := BitVec.msb_eq_decide v
  rwa [BitVec.msb_eq_getLsbD_last] at this

/-- The status byte, pulled again, gives the flags back, with B from the break bit (10_state.md R22, R23). -/
@[simp] theorem Flags.ofStatusByte_statusByte (f : Flags) (brk : Bool) : Flags.ofStatusByte (f.statusByte brk) = { f with b := brk } := by
  obtain ⟨n, v, b, d, i, z, c⟩ := f
  revert n v d i z c brk
  decide +revert

/-! `SetZN` writes Z and N only (10_state.md R20). -/

@[simp] theorem Flags.setZN_v (x : Byte) (f : Flags) : (f.setZN x).v = f.v := rfl
@[simp] theorem Flags.setZN_b (x : Byte) (f : Flags) : (f.setZN x).b = f.b := rfl
@[simp] theorem Flags.setZN_d (x : Byte) (f : Flags) : (f.setZN x).d = f.d := rfl
@[simp] theorem Flags.setZN_i (x : Byte) (f : Flags) : (f.setZN x).i = f.i := rfl
@[simp] theorem Flags.setZN_c (x : Byte) (f : Flags) : (f.setZN x).c = f.c := rfl
@[simp] theorem Flags.setZN_z (x : Byte) (f : Flags) : (f.setZN x).z = (x == 0) := rfl
@[simp] theorem Flags.setZN_n (x : Byte) (f : Flags) : (f.setZN x).n = x.getLsbD 7 := rfl

end Sys2Proof.Machine
end

