-- ==== Sys2Proof/Laws/Step.lean ====
section
/-! SUPPORT. What a step can do, said once: its four cases, each with the equation that holds in it. -/

namespace Sys2Proof.Machine

/-- Before the first reset (70_reset_and_hazards.md R264). -/
theorem stepWith_notReset (cfg : Config) {s : State} (h : s.resetDone = false) : stepWith cfg s = .refused .notReset := by
  simp [stepWith, runStep, h]

/-- A halted CPU (60_exceptions.md R234). -/
theorem stepWith_halted (cfg : Config) {s : State} (h : s.resetDone = true) (hh : s.halted = true) :
    stepWith cfg s = .fault (.illegalOpcode s.faultInfo s) := by
  simp [stepWith, runStep, h, hh]

/-- A pending NMI (60_exceptions.md R239). -/
theorem stepWith_nmi (cfg : Config) {s : State} (h : s.resetDone = true) (hh : s.halted = false) (hn : s.nmiPending = true) :
    stepWith cfg s = .next (s.enterNmi.charge nmiCycles) := by
  simp [stepWith, runStep, h, hh, hn]

/-- A fetch (70_reset_and_hazards.md R273). -/
theorem stepWith_fetch (cfg : Config) {s : State} (h : s.resetDone = true) (hh : s.halted = false) (hn : s.nmiPending = false) :
    stepWith cfg s = runInstruction cfg s := by
  simp [stepWith, runStep, h, hh, hn]

/-- The four cases are all there are. -/
theorem stepWith_cases (cfg : Config) (s : State) :
    (s.resetDone = false ∧ stepWith cfg s = .refused .notReset) ∨
    (s.resetDone = true ∧ s.halted = true ∧ stepWith cfg s = .fault (.illegalOpcode s.faultInfo s)) ∨
    (s.resetDone = true ∧ s.halted = false ∧ s.nmiPending = true ∧ stepWith cfg s = .next (s.enterNmi.charge nmiCycles)) ∨
    (s.resetDone = true ∧ s.halted = false ∧ s.nmiPending = false ∧ stepWith cfg s = runInstruction cfg s) := by
  cases h : s.resetDone
  · exact .inl ⟨rfl, stepWith_notReset cfg h⟩
  cases hh : s.halted
  · cases hn : s.nmiPending
    · exact .inr (.inr (.inr ⟨rfl, rfl, rfl, stepWith_fetch cfg h hh hn⟩))
    · exact .inr (.inr (.inl ⟨rfl, rfl, rfl, stepWith_nmi cfg h hh hn⟩))
  · exact .inr (.inl ⟨rfl, rfl, stepWith_halted cfg h hh⟩)

/-- Under the default configuration BRK is `exec`'s BRK. -/
@[simp] theorem execWith_config (i : Instr) (s : State) : execWith config i s = exec i s := by
  unfold execWith
  split
  · subst i; rfl
  · rfl

theorem execWith_brk (cfg : Config) (s : State) : execWith cfg .brk s = .next (s.breakWith cfg.brkReturnOffset) := if_pos rfl

theorem execWith_of_ne (cfg : Config) {i : Instr} (h : i ≠ .brk) (s : State) : execWith cfg i s = exec i s := if_neg h

/-- An answer that leaves the CPU running is charged (70_reset_and_hazards.md R280). -/
theorem finishStep_running (cfg : Config) (i : Instr) (s : State) {t : State} (h : t.halted = false) :
    finishStep cfg i s (.next t) = .next (t.charge (cycleCost cfg.cycleTable i s)) := by
  simp [finishStep, h]

/-- An answer that halts the CPU is the fault (60_exceptions.md R231). -/
theorem finishStep_halted (cfg : Config) (i : Instr) (s : State) {t : State} (h : t.halted = true) :
    finishStep cfg i s (.next t) = .fault (.illegalOpcode t.faultInfo t) := by
  simp [finishStep, h]

/-- The bytes at `PC`, decoded as a byte sequence, are the instruction the fetch reads. -/
theorem fetch_of_decode {s : State} {i : Instr} {rest : List Byte}
    (h : decode [s.busRead s.pc, s.busRead (s.pc + 1), s.busRead (s.pc + 2)] = .ok (i, rest)) : s.fetch config.implemented = i := by
  simp only [decode, List.getD_cons_zero, List.getD_cons_succ] at h
  split at h
  · cases h
  · injection h with h
    injection h with h

end Sys2Proof.Machine
end

