-- ==== Sys2Proof/Laws/Host.lean ====
section
/-! SUPPORT. What the host operations can do, said once under any configuration: the halted and unreset cases, and the equations of the loop of `tick`. -/

namespace Sys2Proof.Machine

theorem State.canStep_eq_true {s : State} (h : s.resetDone = true) (hh : s.halted = false) : s.canStep = true := by
  simp [State.canStep, h, hh]

/-- An operation that has an answer at the defaults has it as `hostOp`. -/
theorem hostOp_of_some {op : HostOp} {s : State} {a : Answer} (h : hostOpWith config (s.budget + 2).toNat op s = some a) : hostOp op s = a := by
  rw [hostOp, h]; rfl

@[simp] theorem hostOpWith_reset (cfg : Config) (steps : Nat) (s : State) :
    hostOpWith cfg steps .reset s = some (.next (s.resetWith cfg.resetZeroesMemory)) := rfl

@[simp] theorem hostOpWith_runOneInstruction (cfg : Config) (steps : Nat) (s : State) :
    hostOpWith cfg steps .runOneInstruction s = some (runOneInstructionWith cfg s) := rfl

@[simp] theorem hostOpWith_tick (cfg : Config) (steps : Nat) (s : State) : hostOpWith cfg steps .tick s = tickWith cfg steps s := rfl

/-- Only `reset`, `runOneInstruction` and `tick` read a parameter, and only `tick` the number of steps. -/
theorem hostOpWith_of_ne (cfg : Config) (steps : Nat) {op : HostOp} (s : State) (h1 : op ≠ .reset) (h2 : op ≠ .runOneInstruction) (h3 : op ≠ .tick) :
    hostOpWith cfg steps op s = some (hostOp op s) := by
  cases op <;> first | rfl | contradiction

/-- A running CPU takes one step at a budget raised to 0 (70_reset_and_hazards.md R272). -/
theorem runOneInstructionWith_running (cfg : Config) {s : State} (h : s.resetDone = true) (hh : s.halted = false) :
    runOneInstructionWith cfg s = stepWith cfg { s with budget := max s.budget 0 } := by
  have e : (if s.budget < 0 then 0 else s.budget) = max s.budget 0 := by split <;> omega
  rw [runOneInstructionWith, State.canStep_eq_true h hh, e]
  rfl

/-- A CPU without a step answers what its step answers (60_exceptions.md R234; log entry 4). -/
theorem runOneInstructionWith_of_not_canStep (cfg : Config) {s : State} (h : s.canStep = false) : runOneInstructionWith cfg s = stepWith cfg s := by
  simp [runOneInstructionWith, h]

theorem tickWith_of_not_canStep (cfg : Config) (steps : Nat) {s : State} (h : s.canStep = false) : tickWith cfg steps s = some (stepWith cfg s) := by
  simp [tickWith, h]

/-- A running CPU gets one more cycle and enters the loop (70_reset_and_hazards.md R271). -/
theorem tickWith_running (cfg : Config) (steps : Nat) {s : State} (h : s.resetDone = true) (hh : s.halted = false) :
    tickWith cfg steps s = stepWhileBudget cfg steps { s with budget := s.budget + 1 } := by
  simp [tickWith, State.canStep_eq_true h hh]

/-- A spent budget ends the loop. -/
theorem stepWhileBudget_spent (cfg : Config) (steps : Nat) {s : State} (h : s.budget < 0) : stepWhileBudget cfg steps s = some (.next s) := by
  cases steps <;> simp [stepWhileBudget, show ¬ 0 ≤ s.budget by omega]

/-- The loop is still running when it may not step. -/
theorem stepWhileBudget_zero (cfg : Config) {s : State} (h : 0 ≤ s.budget) : stepWhileBudget cfg 0 s = none := by
  simp [stepWhileBudget, h]

/-- A step that completes goes on with the loop. -/
theorem stepWhileBudget_next (cfg : Config) (steps : Nat) {s t : State} (h : 0 ≤ s.budget) (ht : stepWith cfg s = .next t) :
    stepWhileBudget cfg (steps + 1) s = stepWhileBudget cfg steps t := by
  simp [stepWhileBudget, h, ht]

/-- A step that faults ends the loop with its fault. -/
theorem stepWhileBudget_fault (cfg : Config) (steps : Nat) {s : State} {f : Fault} (h : 0 ≤ s.budget) (hf : stepWith cfg s = .fault f) :
    stepWhileBudget cfg (steps + 1) s = some (.fault f) := by
  simp [stepWhileBudget, h, hf]

/-- Once the loop has ended, more steps do not change its answer. -/
theorem stepWhileBudget_mono (cfg : Config) : ∀ (steps : Nat) (s : State) (a : Answer), stepWhileBudget cfg steps s = some a →
    ∀ more, steps ≤ more → stepWhileBudget cfg more s = some a
  | 0, s, a, h, more, _ => by
    by_cases hb : 0 ≤ s.budget
    · rw [stepWhileBudget_zero cfg hb] at h; cases h
    · rw [stepWhileBudget_spent cfg _ (by omega)] at h ⊢; exact h
  | steps + 1, s, a, h, 0, hm => absurd hm (by omega)
  | steps + 1, s, a, h, more + 1, hm => by
    rw [stepWhileBudget] at h ⊢
    split at h
    · rename_i hb
      rw [if_pos hb]
      cases hs : stepWith cfg s with
      | next t => simp only [hs] at h ⊢; exact stepWhileBudget_mono cfg steps t a h more (by omega)
      | fault f => simpa only [hs] using h
      | refused r => simpa only [hs] using h
    · rename_i hb
      rw [if_neg hb]; exact h

end Sys2Proof.Machine
end

