-- ==== Sys2Proof/Laws/PerInstr.lean ====
section
/-! SUPPORT. Statements about an instruction as syntax, one lemma for each constructor. `EncodedLength`: an encoding has one opcode byte and as many operand bytes as its
format (30_encoding.md R80, R81). -/

namespace Sys2Proof.Laws.EncodedLength

/-- An encoding is 1 to 3 bytes long, and its first byte decodes, whatever follows, to an instruction of the same length: "the opcode alone determines the length"
(30_encoding.md R80). -/
def Statement (i : Instr) : Prop :=
  1 ≤ i.length ∧ i.length ≤ 3 ∧ (wellFormed i = true → ∀ b1 b2, (decode3 i.opcode b1 b2).length = i.length)

theorem ldaImm (v : Byte) : Statement (.ldaImm v) := ⟨of_decide_eq_true rfl, of_decide_eq_true rfl, fun _ b1 b2 => (congrArg Instr.length (decode3_A9 b1 b2)).trans rfl⟩
theorem ldaZp (zp : Byte) : Statement (.ldaZp zp) := ⟨of_decide_eq_true rfl, of_decide_eq_true rfl, fun _ b1 b2 => (congrArg Instr.length (decode3_A5 b1 b2)).trans rfl⟩
theorem ldaZpx (zp : Byte) : Statement (.ldaZpx zp) := ⟨of_decide_eq_true rfl, of_decide_eq_true rfl, fun _ b1 b2 => (congrArg Instr.length (decode3_B5 b1 b2)).trans rfl⟩
theorem ldaAbs (addr : Addr) : Statement (.ldaAbs addr) := ⟨of_decide_eq_true rfl, of_decide_eq_true rfl, fun _ b1 b2 => (congrArg Instr.length (decode3_AD b1 b2)).trans rfl⟩
theorem ldaAbsx (addr : Addr) : Statement (.ldaAbsx addr) := ⟨of_decide_eq_true rfl, of_decide_eq_true rfl, fun _ b1 b2 => (congrArg Instr.length (decode3_BD b1 b2)).trans rfl⟩
theorem ldaAbsy (addr : Addr) : Statement (.ldaAbsy addr) := ⟨of_decide_eq_true rfl, of_decide_eq_true rfl, fun _ b1 b2 => (congrArg Instr.length (decode3_B9 b1 b2)).trans rfl⟩
theorem ldaIndx (zp : Byte) : Statement (.ldaIndx zp) := ⟨of_decide_eq_true rfl, of_decide_eq_true rfl, fun _ b1 b2 => (congrArg Instr.length (decode3_A1 b1 b2)).trans rfl⟩
theorem ldaIndy (zp : Byte) : Statement (.ldaIndy zp) := ⟨of_decide_eq_true rfl, of_decide_eq_true rfl, fun _ b1 b2 => (congrArg Instr.length (decode3_B1 b1 b2)).trans rfl⟩
theorem ldxImm (v : Byte) : Statement (.ldxImm v) := ⟨of_decide_eq_true rfl, of_decide_eq_true rfl, fun _ b1 b2 => (congrArg Instr.length (decode3_A2 b1 b2)).trans rfl⟩
theorem ldxZp (zp : Byte) : Statement (.ldxZp zp) := ⟨of_decide_eq_true rfl, of_decide_eq_true rfl, fun _ b1 b2 => (congrArg Instr.length (decode3_A6 b1 b2)).trans rfl⟩
theorem ldxZpy (zp : Byte) : Statement (.ldxZpy zp) := ⟨of_decide_eq_true rfl, of_decide_eq_true rfl, fun _ b1 b2 => (congrArg Instr.length (decode3_B6 b1 b2)).trans rfl⟩
theorem ldxAbs (addr : Addr) : Statement (.ldxAbs addr) := ⟨of_decide_eq_true rfl, of_decide_eq_true rfl, fun _ b1 b2 => (congrArg Instr.length (decode3_AE b1 b2)).trans rfl⟩
theorem ldxAbsy (addr : Addr) : Statement (.ldxAbsy addr) := ⟨of_decide_eq_true rfl, of_decide_eq_true rfl, fun _ b1 b2 => (congrArg Instr.length (decode3_BE b1 b2)).trans rfl⟩
theorem ldyImm (v : Byte) : Statement (.ldyImm v) := ⟨of_decide_eq_true rfl, of_decide_eq_true rfl, fun _ b1 b2 => (congrArg Instr.length (decode3_A0 b1 b2)).trans rfl⟩
theorem ldyZp (zp : Byte) : Statement (.ldyZp zp) := ⟨of_decide_eq_true rfl, of_decide_eq_true rfl, fun _ b1 b2 => (congrArg Instr.length (decode3_A4 b1 b2)).trans rfl⟩
theorem ldyZpx (zp : Byte) : Statement (.ldyZpx zp) := ⟨of_decide_eq_true rfl, of_decide_eq_true rfl, fun _ b1 b2 => (congrArg Instr.length (decode3_B4 b1 b2)).trans rfl⟩
theorem ldyAbs (addr : Addr) : Statement (.ldyAbs addr) := ⟨of_decide_eq_true rfl, of_decide_eq_true rfl, fun _ b1 b2 => (congrArg Instr.length (decode3_AC b1 b2)).trans rfl⟩
theorem ldyAbsx (addr : Addr) : Statement (.ldyAbsx addr) := ⟨of_decide_eq_true rfl, of_decide_eq_true rfl, fun _ b1 b2 => (congrArg Instr.length (decode3_BC b1 b2)).trans rfl⟩
theorem staZp (zp : Byte) : Statement (.staZp zp) := ⟨of_decide_eq_true rfl, of_decide_eq_true rfl, fun _ b1 b2 => (congrArg Instr.length (decode3_85 b1 b2)).trans rfl⟩
theorem staZpx (zp : Byte) : Statement (.staZpx zp) := ⟨of_decide_eq_true rfl, of_decide_eq_true rfl, fun _ b1 b2 => (congrArg Instr.length (decode3_95 b1 b2)).trans rfl⟩
theorem staAbs (addr : Addr) : Statement (.staAbs addr) := ⟨of_decide_eq_true rfl, of_decide_eq_true rfl, fun _ b1 b2 => (congrArg Instr.length (decode3_8D b1 b2)).trans rfl⟩
theorem staAbsx (addr : Addr) : Statement (.staAbsx addr) := ⟨of_decide_eq_true rfl, of_decide_eq_true rfl, fun _ b1 b2 => (congrArg Instr.length (decode3_9D b1 b2)).trans rfl⟩
theorem staAbsy (addr : Addr) : Statement (.staAbsy addr) := ⟨of_decide_eq_true rfl, of_decide_eq_true rfl, fun _ b1 b2 => (congrArg Instr.length (decode3_99 b1 b2)).trans rfl⟩
theorem staIndx (zp : Byte) : Statement (.staIndx zp) := ⟨of_decide_eq_true rfl, of_decide_eq_true rfl, fun _ b1 b2 => (congrArg Instr.length (decode3_81 b1 b2)).trans rfl⟩
theorem staIndy (zp : Byte) : Statement (.staIndy zp) := ⟨of_decide_eq_true rfl, of_decide_eq_true rfl, fun _ b1 b2 => (congrArg Instr.length (decode3_91 b1 b2)).trans rfl⟩
theorem stxZp (zp : Byte) : Statement (.stxZp zp) := ⟨of_decide_eq_true rfl, of_decide_eq_true rfl, fun _ b1 b2 => (congrArg Instr.length (decode3_86 b1 b2)).trans rfl⟩
theorem stxZpy (zp : Byte) : Statement (.stxZpy zp) := ⟨of_decide_eq_true rfl, of_decide_eq_true rfl, fun _ b1 b2 => (congrArg Instr.length (decode3_96 b1 b2)).trans rfl⟩
theorem stxAbs (addr : Addr) : Statement (.stxAbs addr) := ⟨of_decide_eq_true rfl, of_decide_eq_true rfl, fun _ b1 b2 => (congrArg Instr.length (decode3_8E b1 b2)).trans rfl⟩
theorem styZp (zp : Byte) : Statement (.styZp zp) := ⟨of_decide_eq_true rfl, of_decide_eq_true rfl, fun _ b1 b2 => (congrArg Instr.length (decode3_84 b1 b2)).trans rfl⟩
theorem styZpx (zp : Byte) : Statement (.styZpx zp) := ⟨of_decide_eq_true rfl, of_decide_eq_true rfl, fun _ b1 b2 => (congrArg Instr.length (decode3_94 b1 b2)).trans rfl⟩
theorem styAbs (addr : Addr) : Statement (.styAbs addr) := ⟨of_decide_eq_true rfl, of_decide_eq_true rfl, fun _ b1 b2 => (congrArg Instr.length (decode3_8C b1 b2)).trans rfl⟩
theorem tax : Statement (.tax) := ⟨of_decide_eq_true rfl, of_decide_eq_true rfl, fun _ b1 b2 => (congrArg Instr.length (decode3_AA b1 b2)).trans rfl⟩
theorem tay : Statement (.tay) := ⟨of_decide_eq_true rfl, of_decide_eq_true rfl, fun _ b1 b2 => (congrArg Instr.length (decode3_A8 b1 b2)).trans rfl⟩
theorem txa : Statement (.txa) := ⟨of_decide_eq_true rfl, of_decide_eq_true rfl, fun _ b1 b2 => (congrArg Instr.length (decode3_8A b1 b2)).trans rfl⟩
theorem tya : Statement (.tya) := ⟨of_decide_eq_true rfl, of_decide_eq_true rfl, fun _ b1 b2 => (congrArg Instr.length (decode3_98 b1 b2)).trans rfl⟩
theorem tsx : Statement (.tsx) := ⟨of_decide_eq_true rfl, of_decide_eq_true rfl, fun _ b1 b2 => (congrArg Instr.length (decode3_BA b1 b2)).trans rfl⟩
theorem txs : Statement (.txs) := ⟨of_decide_eq_true rfl, of_decide_eq_true rfl, fun _ b1 b2 => (congrArg Instr.length (decode3_9A b1 b2)).trans rfl⟩
theorem adcImm (v : Byte) : Statement (.adcImm v) := ⟨of_decide_eq_true rfl, of_decide_eq_true rfl, fun _ b1 b2 => (congrArg Instr.length (decode3_69 b1 b2)).trans rfl⟩
theorem adcZp (zp : Byte) : Statement (.adcZp zp) := ⟨of_decide_eq_true rfl, of_decide_eq_true rfl, fun _ b1 b2 => (congrArg Instr.length (decode3_65 b1 b2)).trans rfl⟩
theorem adcZpx (zp : Byte) : Statement (.adcZpx zp) := ⟨of_decide_eq_true rfl, of_decide_eq_true rfl, fun _ b1 b2 => (congrArg Instr.length (decode3_75 b1 b2)).trans rfl⟩
theorem adcAbs (addr : Addr) : Statement (.adcAbs addr) := ⟨of_decide_eq_true rfl, of_decide_eq_true rfl, fun _ b1 b2 => (congrArg Instr.length (decode3_6D b1 b2)).trans rfl⟩
theorem adcAbsx (addr : Addr) : Statement (.adcAbsx addr) := ⟨of_decide_eq_true rfl, of_decide_eq_true rfl, fun _ b1 b2 => (congrArg Instr.length (decode3_7D b1 b2)).trans rfl⟩
theorem adcAbsy (addr : Addr) : Statement (.adcAbsy addr) := ⟨of_decide_eq_true rfl, of_decide_eq_true rfl, fun _ b1 b2 => (congrArg Instr.length (decode3_79 b1 b2)).trans rfl⟩
theorem adcIndx (zp : Byte) : Statement (.adcIndx zp) := ⟨of_decide_eq_true rfl, of_decide_eq_true rfl, fun _ b1 b2 => (congrArg Instr.length (decode3_61 b1 b2)).trans rfl⟩
theorem adcIndy (zp : Byte) : Statement (.adcIndy zp) := ⟨of_decide_eq_true rfl, of_decide_eq_true rfl, fun _ b1 b2 => (congrArg Instr.length (decode3_71 b1 b2)).trans rfl⟩
theorem sbcImm (v : Byte) : Statement (.sbcImm v) := ⟨of_decide_eq_true rfl, of_decide_eq_true rfl, fun _ b1 b2 => (congrArg Instr.length (decode3_E9 b1 b2)).trans rfl⟩
theorem sbcZp (zp : Byte) : Statement (.sbcZp zp) := ⟨of_decide_eq_true rfl, of_decide_eq_true rfl, fun _ b1 b2 => (congrArg Instr.length (decode3_E5 b1 b2)).trans rfl⟩
theorem sbcZpx (zp : Byte) : Statement (.sbcZpx zp) := ⟨of_decide_eq_true rfl, of_decide_eq_true rfl, fun _ b1 b2 => (congrArg Instr.length (decode3_F5 b1 b2)).trans rfl⟩
theorem sbcAbs (addr : Addr) : Statement (.sbcAbs addr) := ⟨of_decide_eq_true rfl, of_decide_eq_true rfl, fun _ b1 b2 => (congrArg Instr.length (decode3_ED b1 b2)).trans rfl⟩
theorem sbcAbsx (addr : Addr) : Statement (.sbcAbsx addr) := ⟨of_decide_eq_true rfl, of_decide_eq_true rfl, fun _ b1 b2 => (congrArg Instr.length (decode3_FD b1 b2)).trans rfl⟩
theorem sbcAbsy (addr : Addr) : Statement (.sbcAbsy addr) := ⟨of_decide_eq_true rfl, of_decide_eq_true rfl, fun _ b1 b2 => (congrArg Instr.length (decode3_F9 b1 b2)).trans rfl⟩
theorem sbcIndx (zp : Byte) : Statement (.sbcIndx zp) := ⟨of_decide_eq_true rfl, of_decide_eq_true rfl, fun _ b1 b2 => (congrArg Instr.length (decode3_E1 b1 b2)).trans rfl⟩
theorem sbcIndy (zp : Byte) : Statement (.sbcIndy zp) := ⟨of_decide_eq_true rfl, of_decide_eq_true rfl, fun _ b1 b2 => (congrArg Instr.length (decode3_F1 b1 b2)).trans rfl⟩
theorem andImm (v : Byte) : Statement (.andImm v) := ⟨of_decide_eq_true rfl, of_decide_eq_true rfl, fun _ b1 b2 => (congrArg Instr.length (decode3_29 b1 b2)).trans rfl⟩
theorem andZp (zp : Byte) : Statement (.andZp zp) := ⟨of_decide_eq_true rfl, of_decide_eq_true rfl, fun _ b1 b2 => (congrArg Instr.length (decode3_25 b1 b2)).trans rfl⟩
theorem andZpx (zp : Byte) : Statement (.andZpx zp) := ⟨of_decide_eq_true rfl, of_decide_eq_true rfl, fun _ b1 b2 => (congrArg Instr.length (decode3_35 b1 b2)).trans rfl⟩
theorem andAbs (addr : Addr) : Statement (.andAbs addr) := ⟨of_decide_eq_true rfl, of_decide_eq_true rfl, fun _ b1 b2 => (congrArg Instr.length (decode3_2D b1 b2)).trans rfl⟩
theorem andAbsx (addr : Addr) : Statement (.andAbsx addr) := ⟨of_decide_eq_true rfl, of_decide_eq_true rfl, fun _ b1 b2 => (congrArg Instr.length (decode3_3D b1 b2)).trans rfl⟩
theorem andAbsy (addr : Addr) : Statement (.andAbsy addr) := ⟨of_decide_eq_true rfl, of_decide_eq_true rfl, fun _ b1 b2 => (congrArg Instr.length (decode3_39 b1 b2)).trans rfl⟩
theorem andIndx (zp : Byte) : Statement (.andIndx zp) := ⟨of_decide_eq_true rfl, of_decide_eq_true rfl, fun _ b1 b2 => (congrArg Instr.length (decode3_21 b1 b2)).trans rfl⟩
theorem andIndy (zp : Byte) : Statement (.andIndy zp) := ⟨of_decide_eq_true rfl, of_decide_eq_true rfl, fun _ b1 b2 => (congrArg Instr.length (decode3_31 b1 b2)).trans rfl⟩
theorem oraImm (v : Byte) : Statement (.oraImm v) := ⟨of_decide_eq_true rfl, of_decide_eq_true rfl, fun _ b1 b2 => (congrArg Instr.length (decode3_09 b1 b2)).trans rfl⟩
theorem oraZp (zp : Byte) : Statement (.oraZp zp) := ⟨of_decide_eq_true rfl, of_decide_eq_true rfl, fun _ b1 b2 => (congrArg Instr.length (decode3_05 b1 b2)).trans rfl⟩
theorem oraZpx (zp : Byte) : Statement (.oraZpx zp) := ⟨of_decide_eq_true rfl, of_decide_eq_true rfl, fun _ b1 b2 => (congrArg Instr.length (decode3_15 b1 b2)).trans rfl⟩
theorem oraAbs (addr : Addr) : Statement (.oraAbs addr) := ⟨of_decide_eq_true rfl, of_decide_eq_true rfl, fun _ b1 b2 => (congrArg Instr.length (decode3_0D b1 b2)).trans rfl⟩
theorem oraAbsx (addr : Addr) : Statement (.oraAbsx addr) := ⟨of_decide_eq_true rfl, of_decide_eq_true rfl, fun _ b1 b2 => (congrArg Instr.length (decode3_1D b1 b2)).trans rfl⟩
theorem oraAbsy (addr : Addr) : Statement (.oraAbsy addr) := ⟨of_decide_eq_true rfl, of_decide_eq_true rfl, fun _ b1 b2 => (congrArg Instr.length (decode3_19 b1 b2)).trans rfl⟩
theorem oraIndx (zp : Byte) : Statement (.oraIndx zp) := ⟨of_decide_eq_true rfl, of_decide_eq_true rfl, fun _ b1 b2 => (congrArg Instr.length (decode3_01 b1 b2)).trans rfl⟩
theorem oraIndy (zp : Byte) : Statement (.oraIndy zp) := ⟨of_decide_eq_true rfl, of_decide_eq_true rfl, fun _ b1 b2 => (congrArg Instr.length (decode3_11 b1 b2)).trans rfl⟩
theorem eorImm (v : Byte) : Statement (.eorImm v) := ⟨of_decide_eq_true rfl, of_decide_eq_true rfl, fun _ b1 b2 => (congrArg Instr.length (decode3_49 b1 b2)).trans rfl⟩
theorem eorZp (zp : Byte) : Statement (.eorZp zp) := ⟨of_decide_eq_true rfl, of_decide_eq_true rfl, fun _ b1 b2 => (congrArg Instr.length (decode3_45 b1 b2)).trans rfl⟩
theorem eorZpx (zp : Byte) : Statement (.eorZpx zp) := ⟨of_decide_eq_true rfl, of_decide_eq_true rfl, fun _ b1 b2 => (congrArg Instr.length (decode3_55 b1 b2)).trans rfl⟩
theorem eorAbs (addr : Addr) : Statement (.eorAbs addr) := ⟨of_decide_eq_true rfl, of_decide_eq_true rfl, fun _ b1 b2 => (congrArg Instr.length (decode3_4D b1 b2)).trans rfl⟩
theorem eorAbsx (addr : Addr) : Statement (.eorAbsx addr) := ⟨of_decide_eq_true rfl, of_decide_eq_true rfl, fun _ b1 b2 => (congrArg Instr.length (decode3_5D b1 b2)).trans rfl⟩
theorem eorAbsy (addr : Addr) : Statement (.eorAbsy addr) := ⟨of_decide_eq_true rfl, of_decide_eq_true rfl, fun _ b1 b2 => (congrArg Instr.length (decode3_59 b1 b2)).trans rfl⟩
theorem eorIndx (zp : Byte) : Statement (.eorIndx zp) := ⟨of_decide_eq_true rfl, of_decide_eq_true rfl, fun _ b1 b2 => (congrArg Instr.length (decode3_41 b1 b2)).trans rfl⟩
theorem eorIndy (zp : Byte) : Statement (.eorIndy zp) := ⟨of_decide_eq_true rfl, of_decide_eq_true rfl, fun _ b1 b2 => (congrArg Instr.length (decode3_51 b1 b2)).trans rfl⟩
theorem cmpImm (v : Byte) : Statement (.cmpImm v) := ⟨of_decide_eq_true rfl, of_decide_eq_true rfl, fun _ b1 b2 => (congrArg Instr.length (decode3_C9 b1 b2)).trans rfl⟩
theorem cmpZp (zp : Byte) : Statement (.cmpZp zp) := ⟨of_decide_eq_true rfl, of_decide_eq_true rfl, fun _ b1 b2 => (congrArg Instr.length (decode3_C5 b1 b2)).trans rfl⟩
theorem cmpZpx (zp : Byte) : Statement (.cmpZpx zp) := ⟨of_decide_eq_true rfl, of_decide_eq_true rfl, fun _ b1 b2 => (congrArg Instr.length (decode3_D5 b1 b2)).trans rfl⟩
theorem cmpAbs (addr : Addr) : Statement (.cmpAbs addr) := ⟨of_decide_eq_true rfl, of_decide_eq_true rfl, fun _ b1 b2 => (congrArg Instr.length (decode3_CD b1 b2)).trans rfl⟩
theorem cmpAbsx (addr : Addr) : Statement (.cmpAbsx addr) := ⟨of_decide_eq_true rfl, of_decide_eq_true rfl, fun _ b1 b2 => (congrArg Instr.length (decode3_DD b1 b2)).trans rfl⟩
theorem cmpAbsy (addr : Addr) : Statement (.cmpAbsy addr) := ⟨of_decide_eq_true rfl, of_decide_eq_true rfl, fun _ b1 b2 => (congrArg Instr.length (decode3_D9 b1 b2)).trans rfl⟩
theorem cmpIndx (zp : Byte) : Statement (.cmpIndx zp) := ⟨of_decide_eq_true rfl, of_decide_eq_true rfl, fun _ b1 b2 => (congrArg Instr.length (decode3_C1 b1 b2)).trans rfl⟩
theorem cmpIndy (zp : Byte) : Statement (.cmpIndy zp) := ⟨of_decide_eq_true rfl, of_decide_eq_true rfl, fun _ b1 b2 => (congrArg Instr.length (decode3_D1 b1 b2)).trans rfl⟩
theorem cpxImm (v : Byte) : Statement (.cpxImm v) := ⟨of_decide_eq_true rfl, of_decide_eq_true rfl, fun _ b1 b2 => (congrArg Instr.length (decode3_E0 b1 b2)).trans rfl⟩
theorem cpxZp (zp : Byte) : Statement (.cpxZp zp) := ⟨of_decide_eq_true rfl, of_decide_eq_true rfl, fun _ b1 b2 => (congrArg Instr.length (decode3_E4 b1 b2)).trans rfl⟩
theorem cpxAbs (addr : Addr) : Statement (.cpxAbs addr) := ⟨of_decide_eq_true rfl, of_decide_eq_true rfl, fun _ b1 b2 => (congrArg Instr.length (decode3_EC b1 b2)).trans rfl⟩
theorem cpyImm (v : Byte) : Statement (.cpyImm v) := ⟨of_decide_eq_true rfl, of_decide_eq_true rfl, fun _ b1 b2 => (congrArg Instr.length (decode3_C0 b1 b2)).trans rfl⟩
theorem cpyZp (zp : Byte) : Statement (.cpyZp zp) := ⟨of_decide_eq_true rfl, of_decide_eq_true rfl, fun _ b1 b2 => (congrArg Instr.length (decode3_C4 b1 b2)).trans rfl⟩
theorem cpyAbs (addr : Addr) : Statement (.cpyAbs addr) := ⟨of_decide_eq_true rfl, of_decide_eq_true rfl, fun _ b1 b2 => (congrArg Instr.length (decode3_CC b1 b2)).trans rfl⟩
theorem bitZp (zp : Byte) : Statement (.bitZp zp) := ⟨of_decide_eq_true rfl, of_decide_eq_true rfl, fun _ b1 b2 => (congrArg Instr.length (decode3_24 b1 b2)).trans rfl⟩
theorem bitAbs (addr : Addr) : Statement (.bitAbs addr) := ⟨of_decide_eq_true rfl, of_decide_eq_true rfl, fun _ b1 b2 => (congrArg Instr.length (decode3_2C b1 b2)).trans rfl⟩
theorem incZp (zp : Byte) : Statement (.incZp zp) := ⟨of_decide_eq_true rfl, of_decide_eq_true rfl, fun _ b1 b2 => (congrArg Instr.length (decode3_E6 b1 b2)).trans rfl⟩
theorem incZpx (zp : Byte) : Statement (.incZpx zp) := ⟨of_decide_eq_true rfl, of_decide_eq_true rfl, fun _ b1 b2 => (congrArg Instr.length (decode3_F6 b1 b2)).trans rfl⟩
theorem incAbs (addr : Addr) : Statement (.incAbs addr) := ⟨of_decide_eq_true rfl, of_decide_eq_true rfl, fun _ b1 b2 => (congrArg Instr.length (decode3_EE b1 b2)).trans rfl⟩
theorem incAbsx (addr : Addr) : Statement (.incAbsx addr) := ⟨of_decide_eq_true rfl, of_decide_eq_true rfl, fun _ b1 b2 => (congrArg Instr.length (decode3_FE b1 b2)).trans rfl⟩
theorem decZp (zp : Byte) : Statement (.decZp zp) := ⟨of_decide_eq_true rfl, of_decide_eq_true rfl, fun _ b1 b2 => (congrArg Instr.length (decode3_C6 b1 b2)).trans rfl⟩
theorem decZpx (zp : Byte) : Statement (.decZpx zp) := ⟨of_decide_eq_true rfl, of_decide_eq_true rfl, fun _ b1 b2 => (congrArg Instr.length (decode3_D6 b1 b2)).trans rfl⟩
theorem decAbs (addr : Addr) : Statement (.decAbs addr) := ⟨of_decide_eq_true rfl, of_decide_eq_true rfl, fun _ b1 b2 => (congrArg Instr.length (decode3_CE b1 b2)).trans rfl⟩
theorem decAbsx (addr : Addr) : Statement (.decAbsx addr) := ⟨of_decide_eq_true rfl, of_decide_eq_true rfl, fun _ b1 b2 => (congrArg Instr.length (decode3_DE b1 b2)).trans rfl⟩
theorem inx : Statement (.inx) := ⟨of_decide_eq_true rfl, of_decide_eq_true rfl, fun _ b1 b2 => (congrArg Instr.length (decode3_E8 b1 b2)).trans rfl⟩
theorem iny : Statement (.iny) := ⟨of_decide_eq_true rfl, of_decide_eq_true rfl, fun _ b1 b2 => (congrArg Instr.length (decode3_C8 b1 b2)).trans rfl⟩
theorem dex : Statement (.dex) := ⟨of_decide_eq_true rfl, of_decide_eq_true rfl, fun _ b1 b2 => (congrArg Instr.length (decode3_CA b1 b2)).trans rfl⟩
theorem dey : Statement (.dey) := ⟨of_decide_eq_true rfl, of_decide_eq_true rfl, fun _ b1 b2 => (congrArg Instr.length (decode3_88 b1 b2)).trans rfl⟩
theorem aslAcc : Statement (.aslAcc) := ⟨of_decide_eq_true rfl, of_decide_eq_true rfl, fun _ b1 b2 => (congrArg Instr.length (decode3_0A b1 b2)).trans rfl⟩
theorem aslZp (zp : Byte) : Statement (.aslZp zp) := ⟨of_decide_eq_true rfl, of_decide_eq_true rfl, fun _ b1 b2 => (congrArg Instr.length (decode3_06 b1 b2)).trans rfl⟩
theorem aslZpx (zp : Byte) : Statement (.aslZpx zp) := ⟨of_decide_eq_true rfl, of_decide_eq_true rfl, fun _ b1 b2 => (congrArg Instr.length (decode3_16 b1 b2)).trans rfl⟩
theorem aslAbs (addr : Addr) : Statement (.aslAbs addr) := ⟨of_decide_eq_true rfl, of_decide_eq_true rfl, fun _ b1 b2 => (congrArg Instr.length (decode3_0E b1 b2)).trans rfl⟩
theorem aslAbsx (addr : Addr) : Statement (.aslAbsx addr) := ⟨of_decide_eq_true rfl, of_decide_eq_true rfl, fun _ b1 b2 => (congrArg Instr.length (decode3_1E b1 b2)).trans rfl⟩
theorem lsrAcc : Statement (.lsrAcc) := ⟨of_decide_eq_true rfl, of_decide_eq_true rfl, fun _ b1 b2 => (congrArg Instr.length (decode3_4A b1 b2)).trans rfl⟩
theorem lsrZp (zp : Byte) : Statement (.lsrZp zp) := ⟨of_decide_eq_true rfl, of_decide_eq_true rfl, fun _ b1 b2 => (congrArg Instr.length (decode3_46 b1 b2)).trans rfl⟩
theorem lsrZpx (zp : Byte) : Statement (.lsrZpx zp) := ⟨of_decide_eq_true rfl, of_decide_eq_true rfl, fun _ b1 b2 => (congrArg Instr.length (decode3_56 b1 b2)).trans rfl⟩
theorem lsrAbs (addr : Addr) : Statement (.lsrAbs addr) := ⟨of_decide_eq_true rfl, of_decide_eq_true rfl, fun _ b1 b2 => (congrArg Instr.length (decode3_4E b1 b2)).trans rfl⟩
theorem lsrAbsx (addr : Addr) : Statement (.lsrAbsx addr) := ⟨of_decide_eq_true rfl, of_decide_eq_true rfl, fun _ b1 b2 => (congrArg Instr.length (decode3_5E b1 b2)).trans rfl⟩
theorem rolAcc : Statement (.rolAcc) := ⟨of_decide_eq_true rfl, of_decide_eq_true rfl, fun _ b1 b2 => (congrArg Instr.length (decode3_2A b1 b2)).trans rfl⟩
theorem rolZp (zp : Byte) : Statement (.rolZp zp) := ⟨of_decide_eq_true rfl, of_decide_eq_true rfl, fun _ b1 b2 => (congrArg Instr.length (decode3_26 b1 b2)).trans rfl⟩
theorem rolZpx (zp : Byte) : Statement (.rolZpx zp) := ⟨of_decide_eq_true rfl, of_decide_eq_true rfl, fun _ b1 b2 => (congrArg Instr.length (decode3_36 b1 b2)).trans rfl⟩
theorem rolAbs (addr : Addr) : Statement (.rolAbs addr) := ⟨of_decide_eq_true rfl, of_decide_eq_true rfl, fun _ b1 b2 => (congrArg Instr.length (decode3_2E b1 b2)).trans rfl⟩
theorem rolAbsx (addr : Addr) : Statement (.rolAbsx addr) := ⟨of_decide_eq_true rfl, of_decide_eq_true rfl, fun _ b1 b2 => (congrArg Instr.length (decode3_3E b1 b2)).trans rfl⟩
theorem rorAcc : Statement (.rorAcc) := ⟨of_decide_eq_true rfl, of_decide_eq_true rfl, fun _ b1 b2 => (congrArg Instr.length (decode3_6A b1 b2)).trans rfl⟩
theorem rorZp (zp : Byte) : Statement (.rorZp zp) := ⟨of_decide_eq_true rfl, of_decide_eq_true rfl, fun _ b1 b2 => (congrArg Instr.length (decode3_66 b1 b2)).trans rfl⟩
theorem rorZpx (zp : Byte) : Statement (.rorZpx zp) := ⟨of_decide_eq_true rfl, of_decide_eq_true rfl, fun _ b1 b2 => (congrArg Instr.length (decode3_76 b1 b2)).trans rfl⟩
theorem rorAbs (addr : Addr) : Statement (.rorAbs addr) := ⟨of_decide_eq_true rfl, of_decide_eq_true rfl, fun _ b1 b2 => (congrArg Instr.length (decode3_6E b1 b2)).trans rfl⟩
theorem rorAbsx (addr : Addr) : Statement (.rorAbsx addr) := ⟨of_decide_eq_true rfl, of_decide_eq_true rfl, fun _ b1 b2 => (congrArg Instr.length (decode3_7E b1 b2)).trans rfl⟩
theorem pha : Statement (.pha) := ⟨of_decide_eq_true rfl, of_decide_eq_true rfl, fun _ b1 b2 => (congrArg Instr.length (decode3_48 b1 b2)).trans rfl⟩
theorem pla : Statement (.pla) := ⟨of_decide_eq_true rfl, of_decide_eq_true rfl, fun _ b1 b2 => (congrArg Instr.length (decode3_68 b1 b2)).trans rfl⟩
theorem php : Statement (.php) := ⟨of_decide_eq_true rfl, of_decide_eq_true rfl, fun _ b1 b2 => (congrArg Instr.length (decode3_08 b1 b2)).trans rfl⟩
theorem plp : Statement (.plp) := ⟨of_decide_eq_true rfl, of_decide_eq_true rfl, fun _ b1 b2 => (congrArg Instr.length (decode3_28 b1 b2)).trans rfl⟩
theorem clc : Statement (.clc) := ⟨of_decide_eq_true rfl, of_decide_eq_true rfl, fun _ b1 b2 => (congrArg Instr.length (decode3_18 b1 b2)).trans rfl⟩
theorem sec : Statement (.sec) := ⟨of_decide_eq_true rfl, of_decide_eq_true rfl, fun _ b1 b2 => (congrArg Instr.length (decode3_38 b1 b2)).trans rfl⟩
theorem cli : Statement (.cli) := ⟨of_decide_eq_true rfl, of_decide_eq_true rfl, fun _ b1 b2 => (congrArg Instr.length (decode3_58 b1 b2)).trans rfl⟩
theorem sei : Statement (.sei) := ⟨of_decide_eq_true rfl, of_decide_eq_true rfl, fun _ b1 b2 => (congrArg Instr.length (decode3_78 b1 b2)).trans rfl⟩
theorem clv : Statement (.clv) := ⟨of_decide_eq_true rfl, of_decide_eq_true rfl, fun _ b1 b2 => (congrArg Instr.length (decode3_B8 b1 b2)).trans rfl⟩
theorem cld : Statement (.cld) := ⟨of_decide_eq_true rfl, of_decide_eq_true rfl, fun _ b1 b2 => (congrArg Instr.length (decode3_D8 b1 b2)).trans rfl⟩
theorem sed : Statement (.sed) := ⟨of_decide_eq_true rfl, of_decide_eq_true rfl, fun _ b1 b2 => (congrArg Instr.length (decode3_F8 b1 b2)).trans rfl⟩
theorem nop : Statement (.nop) := ⟨of_decide_eq_true rfl, of_decide_eq_true rfl, fun _ b1 b2 => (congrArg Instr.length (decode3_EA b1 b2)).trans rfl⟩
theorem jmpAbs (addr : Addr) : Statement (.jmpAbs addr) := ⟨of_decide_eq_true rfl, of_decide_eq_true rfl, fun _ b1 b2 => (congrArg Instr.length (decode3_4C b1 b2)).trans rfl⟩
theorem jmpInd (ptr : Addr) : Statement (.jmpInd ptr) := ⟨of_decide_eq_true rfl, of_decide_eq_true rfl, fun _ b1 b2 => (congrArg Instr.length (decode3_6C b1 b2)).trans rfl⟩
theorem jsr (addr : Addr) : Statement (.jsr addr) := ⟨of_decide_eq_true rfl, of_decide_eq_true rfl, fun _ b1 b2 => (congrArg Instr.length (decode3_20 b1 b2)).trans rfl⟩
theorem rts : Statement (.rts) := ⟨of_decide_eq_true rfl, of_decide_eq_true rfl, fun _ b1 b2 => (congrArg Instr.length (decode3_60 b1 b2)).trans rfl⟩
theorem bcc (off : Byte) : Statement (.bcc off) := ⟨of_decide_eq_true rfl, of_decide_eq_true rfl, fun _ b1 b2 => (congrArg Instr.length (decode3_90 b1 b2)).trans rfl⟩
theorem bcs (off : Byte) : Statement (.bcs off) := ⟨of_decide_eq_true rfl, of_decide_eq_true rfl, fun _ b1 b2 => (congrArg Instr.length (decode3_B0 b1 b2)).trans rfl⟩
theorem beq (off : Byte) : Statement (.beq off) := ⟨of_decide_eq_true rfl, of_decide_eq_true rfl, fun _ b1 b2 => (congrArg Instr.length (decode3_F0 b1 b2)).trans rfl⟩
theorem bne (off : Byte) : Statement (.bne off) := ⟨of_decide_eq_true rfl, of_decide_eq_true rfl, fun _ b1 b2 => (congrArg Instr.length (decode3_D0 b1 b2)).trans rfl⟩
theorem bmi (off : Byte) : Statement (.bmi off) := ⟨of_decide_eq_true rfl, of_decide_eq_true rfl, fun _ b1 b2 => (congrArg Instr.length (decode3_30 b1 b2)).trans rfl⟩
theorem bpl (off : Byte) : Statement (.bpl off) := ⟨of_decide_eq_true rfl, of_decide_eq_true rfl, fun _ b1 b2 => (congrArg Instr.length (decode3_10 b1 b2)).trans rfl⟩
theorem bvc (off : Byte) : Statement (.bvc off) := ⟨of_decide_eq_true rfl, of_decide_eq_true rfl, fun _ b1 b2 => (congrArg Instr.length (decode3_50 b1 b2)).trans rfl⟩
theorem bvs (off : Byte) : Statement (.bvs off) := ⟨of_decide_eq_true rfl, of_decide_eq_true rfl, fun _ b1 b2 => (congrArg Instr.length (decode3_70 b1 b2)).trans rfl⟩
theorem brk : Statement (.brk) := ⟨of_decide_eq_true rfl, of_decide_eq_true rfl, fun _ b1 b2 => (congrArg Instr.length (decode3_00 b1 b2)).trans rfl⟩
theorem rti : Statement (.rti) := ⟨of_decide_eq_true rfl, of_decide_eq_true rfl, fun _ b1 b2 => (congrArg Instr.length (decode3_40 b1 b2)).trans rfl⟩

/-- No byte of R88 is one of R86: decoding one gives `illegal` back. -/
theorem decode3_illegal (op b1 b2 : Byte) (h : wellFormed (.illegal op) = true) : decode3 op b1 b2 = .illegal op := by
  have hm : op ∈ illegalOpcodes := by simpa [wellFormed] using h
  have all : ∀ o ∈ illegalOpcodes, decode3 o b1 b2 = .illegal o := by
    simp only [illegalOpcodes, List.cons_append, List.nil_append, List.forall_mem_cons, List.not_mem_nil, false_implies, implies_true, and_true]
    repeat' constructor
  exact all op hm

theorem illegal (op : Byte) : Statement (.illegal op) :=
  ⟨of_decide_eq_true rfl, of_decide_eq_true rfl, fun h b1 b2 => by rw [show Instr.opcode (.illegal op) = op from rfl, decode3_illegal op b1 b2 h]⟩

end Sys2Proof.Laws.EncodedLength
end

