-- ==== Sys2Proof/Tests/Slice0.lean ====
section
/-! SUPPORT. Tests. Expected results come from the spec: the decode tests from the encodings of 30_encoding.md, the one-step tests from the vectors of
95_test_vectors.md (each names its row). The witnesses show for each statement with hypotheses that something meets them, each clause at a boundary. -/

namespace Sys2Proof.Tests.Slice0

open Sys2Proof Sys2Proof.Machine

/-! WellFormed: one check, and the ill-formed terms it refuses (30_encoding.md R88, R89). -/

theorem test_wellFormed_refuses_a_defined_byte : wellFormed (.illegal 0xA9) = false := by decide
theorem test_wellFormed_refuses_brk_byte : wellFormed (.illegal 0x00) = false := by decide
theorem test_wellFormed_accepts : wellFormed (.illegal 0x02) = true ∧ wellFormed (.ldaImm 0xFF) = true := by decide

/-! Decoding, one byte written bit by bit for each family (30_encoding.md R86). -/

theorem test_decode_load : decode [0b10101001, 0b00110000] = .ok (.ldaImm 0x30, []) := by decide
theorem test_decode_store : decode [0b10011101, 0b11111111, 0b01000100] = .ok (.staAbsx 0x44FF, []) := by decide
theorem test_decode_transfer : decode [0b10011010] = .ok (.txs, []) := by decide
theorem test_decode_arithmetic : decode [0b01110001, 0b10000110] = .ok (.adcIndy 0x86, []) := by decide
theorem test_decode_subtract : decode [0b11100001, 0b00100000] = .ok (.sbcIndx 0x20, []) := by decide
theorem test_decode_logic : decode [0b00110101, 0b00010000] = .ok (.andZpx 0x10, []) := by decide
theorem test_decode_compare : decode [0b11001100, 0b00000000, 0b00000011] = .ok (.cpyAbs 0x0300, []) := by decide
theorem test_decode_bit : decode [0b00101100, 0b00000000, 0b00000011] = .ok (.bitAbs 0x0300, []) := by decide
theorem test_decode_increment : decode [0b11111110, 0b11111111, 0b00000010] = .ok (.incAbsx 0x02FF, []) := by decide
theorem test_decode_shift : decode [0b01111110, 0b11111111, 0b00000010] = .ok (.rorAbsx 0x02FF, []) := by decide
theorem test_decode_stack : decode [0b00101000] = .ok (.plp, []) := by decide
theorem test_decode_flag : decode [0b10111000] = .ok (.clv, []) := by decide
theorem test_decode_nop : decode [0b11101010] = .ok (.nop, []) := by decide
theorem test_decode_jump : decode [0b01101100, 0b11111111, 0b00000010] = .ok (.jmpInd 0x02FF, []) := by decide
theorem test_decode_subroutine : decode [0b00100000, 0b00110000, 0b00110000] = .ok (.jsr 0x3030, []) := by decide
theorem test_decode_branch : decode [0b11010000, 0b11111110] = .ok (.bne 0xFE, []) := by decide
theorem test_decode_trap : decode [0b01000000] = .ok (.rti, []) := by decide
theorem test_decode_illegal : decode [0b00000010] = .ok (.illegal 0x02, []) := by decide
theorem test_decode_truncated : decode [0b10101101, 0b00110100] = .error (.truncated 0xAD) := by decide
theorem test_decodeTableWord : decodeTableWord 24 0x1234AD = some (.ldaAbs 0x1234) ∧ decodeTableWord 8 0xA9 = some (.ldaImm 0) := by decide

/-! One step each. -/

/-- The reset state with `PC` at `pc`, the bytes of an instruction there and some more bytes of memory. -/
def start (pc : Addr) (bytes : List Byte) (cells : List (Nat × Byte)) : State :=
  { State.reset with
    pc := pc, mem := Memory.writeBytes (cells.foldr (fun c m => Memory.write m c.1 c.2) []) pc.toNat bytes }

/-- What a test looks at: A, X, Y, S, PC, the flags as a byte with bit 5 set and the stored B, the cycles; and raw bytes. -/
def seen (cells : List Nat) : Answer → List Nat × List Byte
  | .next t =>
    ([t.a.toNat, t.x.toNat, t.y.toNat, t.sp.toNat, t.pc.toNat, (t.flags.statusByte t.flags.b).toNat, t.cycles], cells.map (Memory.read t.mem))
  | _ => ([], [])

/-- Whether the PPU records are as expected. -/
def ppuSeen (f : State → Bool) : Answer → Bool
  | .next t => f t
  | _ => false

theorem test_withFetchWord : seen [] (step (State.reset.withFetchWord 24 0x1234AD)) = ([0, 0, 0, 0xFF, 3, 0x22, 4], []) := by decide

/-- V1.2. -/
theorem test_lda_imm : seen [] (step (start 0x8000 [0xA9, 0x80] [])) = ([0x80, 0x00, 0x00, 0xFF, 0x8002, 0xA0, 2], []) := by decide
/-- V1.5. -/
theorem test_lda_zpx : seen [] (step { start 0x8000 [0xB5, 0xFF] [(0x0000, 0x5A), (0x0100, 0xA5)] with x := 0x01 }) = ([0x5A, 0x01, 0x00, 0xFF, 0x8002, 0x20, 4], []) := by decide
/-- V1.6. -/
theorem test_lda_abs : seen [] (step (start 0x8000 [0xAD, 0x34, 0x12] [(0x0234, 0xC3)])) = ([0xC3, 0x00, 0x00, 0xFF, 0x8003, 0xA0, 4], []) := by decide
/-- V1.7. -/
theorem test_lda_absx : seen [] (step { start 0x8000 [0xBD, 0xFF, 0x44] [(0x4500, 0x11)] with x := 0x01 }) = ([0x11, 0x01, 0x00, 0xFF, 0x8003, 0x20, 5], []) := by decide
/-- V1.9. -/
theorem test_lda_absx_2 : seen [] (step { start 0x8000 [0xBD, 0xFF, 0xFF] [(0x0001, 0x99)] with x := 0x02 }) = ([0x99, 0x02, 0x00, 0xFF, 0x8003, 0xA0, 5], []) := by decide
/-- V1.10. -/
theorem test_lda_absy : seen [] (step { start 0x8000 [0xB9, 0xF0, 0x12] [(0x0310, 0x77)] with y := 0x20 }) = ([0x77, 0x00, 0x20, 0xFF, 0x8003, 0x20, 5], []) := by decide
/-- V1.12. -/
theorem test_lda_indx : seen [] (step { start 0x8000 [0xA1, 0xFE] [(0x00FF, 0x34), (0x0000, 0x12), (0x0234, 0xAB)] with x := 0x01 }) = ([0xAB, 0x01, 0x00, 0xFF, 0x8002, 0xA0, 6], []) := by decide
/-- V1.14. -/
theorem test_lda_indy : seen [] (step { start 0x8000 [0xB1, 0x86] [(0x0086, 0xF8), (0x0087, 0x40), (0x4108, 0x22)] with y := 0x10 }) = ([0x22, 0x00, 0x10, 0xFF, 0x8002, 0x20, 6], []) := by decide
/-- V1.15. -/
theorem test_lda_indy_2 : seen [] (step { start 0x8000 [0xB1, 0xFF] [(0x00FF, 0x00), (0x0000, 0x03), (0x0301, 0x44)] with y := 0x01 }) = ([0x44, 0x00, 0x01, 0xFF, 0x8002, 0x20, 5], []) := by decide
/-- V1.16. -/
theorem test_lda_abs_2 : seen [] (step (start 0x8000 [0xAD, 0x10, 0x08] [(0x0010, 0x6E)])) = ([0x6E, 0x00, 0x00, 0xFF, 0x8003, 0x20, 4], []) := by decide
/-- V1.17. -/
theorem test_ldx_imm : seen [] (step (start 0x8000 [0xA2, 0xFF] [])) = ([0x00, 0xFF, 0x00, 0xFF, 0x8002, 0xA0, 2], []) := by decide
/-- V1.18. -/
theorem test_ldx_zp : seen [] (step { start 0x8000 [0xA6, 0x10] [(0x0010, 0x00)] with x := 0x05 }) = ([0x00, 0x00, 0x00, 0xFF, 0x8002, 0x22, 3], []) := by decide
/-- V1.19. -/
theorem test_ldx_zpy : seen [] (step { start 0x8000 [0xB6, 0x80] [(0x0010, 0x7F)] with y := 0x90 }) = ([0x00, 0x7F, 0x90, 0xFF, 0x8002, 0x20, 4], []) := by decide
/-- V1.20. -/
theorem test_ldx_abs : seen [] (step (start 0x8000 [0xAE, 0x00, 0x03] [(0x0300, 0x81)])) = ([0x00, 0x81, 0x00, 0xFF, 0x8003, 0xA0, 4], []) := by decide
/-- V1.21. -/
theorem test_ldx_absy : seen [] (step { start 0x8000 [0xBE, 0xFF, 0x02] [(0x0300, 0x01)] with y := 0x01 }) = ([0x00, 0x01, 0x01, 0xFF, 0x8003, 0x20, 5], []) := by decide
/-- V1.22. -/
theorem test_ldy_imm : seen [] (step { start 0x8000 [0xA0, 0x00] [] with y := 0x09 }) = ([0x00, 0x00, 0x00, 0xFF, 0x8002, 0x22, 2], []) := by decide
/-- V1.23. -/
theorem test_ldy_zp : seen [] (step (start 0x8000 [0xA4, 0x10] [(0x0010, 0x80)])) = ([0x00, 0x00, 0x80, 0xFF, 0x8002, 0xA0, 3], []) := by decide
/-- V1.24. -/
theorem test_ldy_zpx : seen [] (step { start 0x8000 [0xB4, 0xF0] [(0x0010, 0x33)] with x := 0x20 }) = ([0x00, 0x20, 0x33, 0xFF, 0x8002, 0x20, 4], []) := by decide
/-- V1.25. -/
theorem test_ldy_abs : seen [] (step (start 0x8000 [0xAC, 0x00, 0x03] [(0x0300, 0x7F)])) = ([0x00, 0x00, 0x7F, 0xFF, 0x8003, 0x20, 4], []) := by decide
/-- V1.26. -/
theorem test_ldy_absx : seen [] (step { start 0x8000 [0xBC, 0x00, 0x03] [(0x03FF, 0x80)] with x := 0xFF }) = ([0x00, 0xFF, 0x80, 0xFF, 0x8003, 0xA0, 4], []) := by decide
/-- V2.1. -/
theorem test_sta_zp : seen [0x0010] (step { start 0x8000 [0x85, 0x10] [] with a := 0x42 }) = ([0x42, 0x00, 0x00, 0xFF, 0x8002, 0x20, 3], [0x42]) := by decide
/-- V2.2. -/
theorem test_sta_zpx : seen [0x0001, 0x0101] (step { start 0x8000 [0x95, 0xFF] [] with a := 0x42, x := 0x02 }) = ([0x42, 0x02, 0x00, 0xFF, 0x8002, 0x20, 4], [0x42, 0x00]) := by decide
/-- V2.4. -/
theorem test_sta_absx : seen [0x4500] (step { start 0x8000 [0x9D, 0xFF, 0x44] [] with a := 0x77, x := 0x01 }) = ([0x77, 0x01, 0x00, 0xFF, 0x8003, 0x20, 5], [0x77]) := by decide
/-- V2.6. -/
theorem test_sta_absy : seen [0x0300] (step { start 0x8000 [0x99, 0xFF, 0x02] [] with a := 0x55, y := 0x01 }) = ([0x55, 0x00, 0x01, 0xFF, 0x8003, 0x20, 5], [0x55]) := by decide
/-- V2.7. -/
theorem test_sta_indx : seen [0x0300] (step { start 0x8000 [0x81, 0x20] [(0x0024, 0x00), (0x0025, 0x03)] with a := 0x5A, x := 0x04 }) = ([0x5A, 0x04, 0x00, 0xFF, 0x8002, 0x20, 6], [0x5A]) := by decide
/-- V2.8. -/
theorem test_sta_indy : seen [0x0400] (step { start 0x8000 [0x91, 0x20] [(0x0020, 0x01), (0x0021, 0x03)] with a := 0x9A, y := 0xFF }) = ([0x9A, 0x00, 0xFF, 0xFF, 0x8002, 0x20, 6], [0x9A]) := by decide
/-- V2.9. -/
theorem test_stx_zp : seen [0x0010] (step { start 0x8000 [0x86, 0x10] [] with x := 0x55 }) = ([0x00, 0x55, 0x00, 0xFF, 0x8002, 0x20, 3], [0x55]) := by decide
/-- V2.10. -/
theorem test_stx_zpy : seen [0x0012] (step { start 0x8000 [0x96, 0x10] [] with x := 0x55, y := 0x02 }) = ([0x00, 0x55, 0x02, 0xFF, 0x8002, 0x20, 4], [0x55]) := by decide
/-- V2.11. -/
theorem test_stx_abs : seen [0x0300] (step { start 0x8000 [0x8E, 0x00, 0x03] [] with x := 0x80, flags := { Flags.clear with z := true } }) = ([0x00, 0x80, 0x00, 0xFF, 0x8003, 0x22, 4], [0x80]) := by decide
/-- V2.12. -/
theorem test_sty_zp : seen [0x0010] (step { start 0x8000 [0x84, 0x10] [] with y := 0x66 }) = ([0x00, 0x00, 0x66, 0xFF, 0x8002, 0x20, 3], [0x66]) := by decide
/-- V2.13. -/
theorem test_sty_zpx : seen [0x0001] (step { start 0x8000 [0x94, 0xFF] [] with x := 0x02, y := 0x66 }) = ([0x00, 0x02, 0x66, 0xFF, 0x8002, 0x20, 4], [0x66]) := by decide
/-- V2.14. -/
theorem test_sty_abs : seen [0x0300] (step { start 0x8000 [0x8C, 0x00, 0x03] [] with flags := { Flags.clear with n := true } }) = ([0x00, 0x00, 0x00, 0xFF, 0x8003, 0xA0, 4], [0x00]) := by decide
/-- V2.15. -/
theorem test_tax : seen [] (step { start 0x8000 [0xAA] [] with a := 0x80 }) = ([0x80, 0x80, 0x00, 0xFF, 0x8001, 0xA0, 2], []) := by decide
/-- V2.16. -/
theorem test_tay : seen [] (step { start 0x8000 [0xA8] [] with y := 0x07 }) = ([0x00, 0x00, 0x00, 0xFF, 0x8001, 0x22, 2], []) := by decide
/-- V2.17. -/
theorem test_txa : seen [] (step { start 0x8000 [0x8A] [] with a := 0x80, x := 0x7F, flags := { Flags.clear with n := true } }) = ([0x7F, 0x7F, 0x00, 0xFF, 0x8001, 0x20, 2], []) := by decide
/-- V2.18. -/
theorem test_tya : seen [] (step { start 0x8000 [0x98] [] with y := 0xC0 }) = ([0xC0, 0x00, 0xC0, 0xFF, 0x8001, 0xA0, 2], []) := by decide
/-- V2.20. -/
theorem test_tsx : seen [] (step { start 0x8000 [0xBA] [] with x := 0x05, sp := 0x00 }) = ([0x00, 0x00, 0x00, 0x00, 0x8001, 0x22, 2], []) := by decide
/-- V2.22. -/
theorem test_txs : seen [] (step { start 0x8000 [0x9A] [] with x := 0x80 }) = ([0x00, 0x80, 0x00, 0x80, 0x8001, 0x20, 2], []) := by decide
/-- V3.4. -/
theorem test_adc_imm : seen [] (step { start 0x8000 [0x69, 0x00] [] with a := 0xFF, flags := { Flags.clear with c := true } }) = ([0x00, 0x00, 0x00, 0xFF, 0x8002, 0x23, 2], []) := by decide
/-- V3.6. -/
theorem test_adc_imm_2 : seen [] (step { start 0x8000 [0x69, 0x90] [] with a := 0xD0 }) = ([0x60, 0x00, 0x00, 0xFF, 0x8002, 0x61, 2], []) := by decide
/-- V3.10. -/
theorem test_adc_zp : seen [] (step { start 0x8000 [0x65, 0x10] [(0x0010, 0xFE)] with a := 0x01, flags := { Flags.clear with c := true } }) = ([0x00, 0x00, 0x00, 0xFF, 0x8002, 0x23, 3], []) := by decide
/-- V3.11. -/
theorem test_adc_absx : seen [] (step { start 0x8000 [0x7D, 0xFF, 0x02] [(0x0300, 0x20)] with a := 0x10, x := 0x01 }) = ([0x30, 0x01, 0x00, 0xFF, 0x8003, 0x20, 5], []) := by decide
/-- V3.14. -/
theorem test_sbc_imm : seen [] (step { start 0x8000 [0xE9, 0xB0] [] with a := 0x50, flags := { Flags.clear with c := true } }) = ([0xA0, 0x00, 0x00, 0xFF, 0x8002, 0xE0, 2], []) := by decide
/-- V3.19. -/
theorem test_sbc_imm_2 : seen [] (step { start 0x8000 [0xE9, 0x01] [] with a := 0x10, flags := { Flags.clear with c := true, d := true } }) = ([0x0F, 0x00, 0x00, 0xFF, 0x8002, 0x29, 2], []) := by decide
/-- V3.20. -/
theorem test_sbc_zp : seen [] (step { start 0x8000 [0xE5, 0x10] [(0x0010, 0x03)] with a := 0x05 }) = ([0x01, 0x00, 0x00, 0xFF, 0x8002, 0x21, 3], []) := by decide
/-- V4.2. -/
theorem test_and_imm : seen [] (step { start 0x8000 [0x29, 0xC0] [] with a := 0xFF, flags := { Flags.clear with c := true, v := true } }) = ([0xC0, 0x00, 0x00, 0xFF, 0x8002, 0xE1, 2], []) := by decide
/-- V4.3. -/
theorem test_ora_imm : seen [] (step { start 0x8000 [0x09, 0x80] [] with a := 0x01 }) = ([0x81, 0x00, 0x00, 0xFF, 0x8002, 0xA0, 2], []) := by decide
/-- V4.6. -/
theorem test_eor_imm : seen [] (step { start 0x8000 [0x49, 0xFF] [] with a := 0x0F }) = ([0xF0, 0x00, 0x00, 0xFF, 0x8002, 0xA0, 2], []) := by decide
/-- V4.7. -/
theorem test_and_zpx : seen [] (step { start 0x8000 [0x35, 0x10] [(0x0011, 0x0F)] with a := 0x3C, x := 0x01 }) = ([0x0C, 0x01, 0x00, 0xFF, 0x8002, 0x20, 4], []) := by decide
/-- V4.8. -/
theorem test_ora_indy : seen [] (step { start 0x8000 [0x11, 0x20] [(0x0020, 0xFF), (0x0021, 0x02), (0x0300, 0x40)] with a := 0x01, y := 0x01 }) = ([0x41, 0x00, 0x01, 0xFF, 0x8002, 0x20, 6], []) := by decide
/-- V4.11. -/
theorem test_cmp_imm : seen [] (step (start 0x8000 [0xC9, 0x01] [])) = ([0x00, 0x00, 0x00, 0xFF, 0x8002, 0xA0, 2], []) := by decide
/-- V4.12. -/
theorem test_cmp_imm_2 : seen [] (step { start 0x8000 [0xC9, 0x01] [] with a := 0x80, flags := { Flags.clear with v := true } }) = ([0x80, 0x00, 0x00, 0xFF, 0x8002, 0x61, 2], []) := by decide
/-- V4.14. -/
theorem test_cpx_imm : seen [] (step { start 0x8000 [0xE0, 0x20] [] with x := 0x10 }) = ([0x00, 0x10, 0x00, 0xFF, 0x8002, 0xA0, 2], []) := by decide
/-- V4.15. -/
theorem test_cpx_zp : seen [] (step { start 0x8000 [0xE4, 0x10] [(0x0010, 0x20)] with x := 0x20 }) = ([0x00, 0x20, 0x00, 0xFF, 0x8002, 0x23, 3], []) := by decide
/-- V4.16. -/
theorem test_cpy_imm : seen [] (step { start 0x8000 [0xC0, 0x01] [] with y := 0x80 }) = ([0x00, 0x00, 0x80, 0xFF, 0x8002, 0x21, 2], []) := by decide
/-- V4.17. -/
theorem test_cpy_abs : seen [] (step (start 0x8000 [0xCC, 0x00, 0x03] [(0x0300, 0x80)])) = ([0x00, 0x00, 0x00, 0xFF, 0x8003, 0xA0, 4], []) := by decide
/-- V4.18. -/
theorem test_bit_zp : seen [] (step { start 0x8000 [0x24, 0x10] [(0x0010, 0x41)] with a := 0x01 }) = ([0x01, 0x00, 0x00, 0xFF, 0x8002, 0x60, 3], []) := by decide
/-- V4.19. -/
theorem test_bit_abs : seen [] (step (start 0x8000 [0x2C, 0x00, 0x03] [(0x0300, 0xC0)])) = ([0x00, 0x00, 0x00, 0xFF, 0x8003, 0xE2, 4], []) := by decide
/-- V5.1. -/
theorem test_inc_zp : seen [0x0010] (step (start 0x8000 [0xE6, 0x10] [(0x0010, 0xFF)])) = ([0x00, 0x00, 0x00, 0xFF, 0x8002, 0x22, 5], [0x00]) := by decide
/-- V5.2. -/
theorem test_inc_absx : seen [0x0300] (step { start 0x8000 [0xFE, 0xFF, 0x02] [(0x0300, 0x7F)] with x := 0x01 }) = ([0x00, 0x01, 0x00, 0xFF, 0x8003, 0xA0, 7], [0x80]) := by decide
/-- V5.3. -/
theorem test_inc_zpx : seen [0x0000] (step { start 0x8000 [0xF6, 0xFF] [(0x0000, 0x01)] with x := 0x01 }) = ([0x00, 0x01, 0x00, 0xFF, 0x8002, 0x20, 6], [0x02]) := by decide
/-- V5.4. -/
theorem test_inc_abs : seen [0x0300] (step (start 0x8000 [0xEE, 0x00, 0x0B] [(0x0300, 0x0F)])) = ([0x00, 0x00, 0x00, 0xFF, 0x8003, 0x20, 6], [0x10]) := by decide
/-- V5.5. -/
theorem test_dec_abs : seen [0x0300] (step (start 0x8000 [0xCE, 0x00, 0x03] [(0x0300, 0x00)])) = ([0x00, 0x00, 0x00, 0xFF, 0x8003, 0xA0, 6], [0xFF]) := by decide
/-- V5.6. -/
theorem test_dec_zp : seen [0x0010] (step (start 0x8000 [0xC6, 0x10] [(0x0010, 0x01)])) = ([0x00, 0x00, 0x00, 0xFF, 0x8002, 0x22, 5], [0x00]) := by decide
/-- V5.7. -/
theorem test_dec_zpx : seen [0x0011] (step { start 0x8000 [0xD6, 0x10] [(0x0011, 0x80)] with x := 0x01 }) = ([0x00, 0x01, 0x00, 0xFF, 0x8002, 0x20, 6], [0x7F]) := by decide
/-- V5.8. -/
theorem test_dec_absx : seen [0x0301] (step { start 0x8000 [0xDE, 0x00, 0x03] [(0x0301, 0x00)] with x := 0x01 }) = ([0x00, 0x01, 0x00, 0xFF, 0x8003, 0xA0, 7], [0xFF]) := by decide
/-- V5.9. -/
theorem test_inx : seen [] (step { start 0x8000 [0xE8] [] with x := 0xFF, flags := { Flags.clear with c := true } }) = ([0x00, 0x00, 0x00, 0xFF, 0x8001, 0x23, 2], []) := by decide
/-- V5.10. -/
theorem test_iny : seen [] (step { start 0x8000 [0xC8] [] with y := 0x7F }) = ([0x00, 0x00, 0x80, 0xFF, 0x8001, 0xA0, 2], []) := by decide
/-- V5.11. -/
theorem test_dex : seen [] (step (start 0x8000 [0xCA] [])) = ([0x00, 0xFF, 0x00, 0xFF, 0x8001, 0xA0, 2], []) := by decide
/-- V5.12. -/
theorem test_dey : seen [] (step { start 0x8000 [0x88] [] with y := 0x01 }) = ([0x00, 0x00, 0x00, 0xFF, 0x8001, 0x22, 2], []) := by decide
/-- V6.1. -/
theorem test_asl_acc : seen [] (step { start 0x8000 [0x0A] [] with a := 0x81 }) = ([0x02, 0x00, 0x00, 0xFF, 0x8001, 0x21, 2], []) := by decide
/-- V6.3. -/
theorem test_asl_acc_2 : seen [] (step { start 0x8000 [0x0A] [] with a := 0x40, flags := { Flags.clear with c := true } }) = ([0x80, 0x00, 0x00, 0xFF, 0x8001, 0xA0, 2], []) := by decide
/-- V6.4. -/
theorem test_asl_zp : seen [0x0010] (step (start 0x8000 [0x06, 0x10] [(0x0010, 0x40)])) = ([0x00, 0x00, 0x00, 0xFF, 0x8002, 0xA0, 5], [0x80]) := by decide
/-- V6.5. -/
theorem test_asl_absx : seen [0x0301] (step { start 0x8000 [0x1E, 0x00, 0x03] [(0x0301, 0xFF)] with x := 0x01 }) = ([0x00, 0x01, 0x00, 0xFF, 0x8003, 0xA1, 7], [0xFE]) := by decide
/-- V6.6. -/
theorem test_lsr_zp : seen [0x0010] (step (start 0x8000 [0x46, 0x10] [(0x0010, 0x02)])) = ([0x00, 0x00, 0x00, 0xFF, 0x8002, 0x20, 5], [0x01]) := by decide
/-- V6.8. -/
theorem test_lsr_acc : seen [] (step { start 0x8000 [0x4A] [] with a := 0xFF, flags := { Flags.clear with n := true } }) = ([0x7F, 0x00, 0x00, 0xFF, 0x8001, 0x21, 2], []) := by decide
/-- V6.9. -/
theorem test_lsr_abs : seen [0x0300] (step { start 0x8000 [0x4E, 0x00, 0x03] [(0x0300, 0x80)] with flags := { Flags.clear with c := true } }) = ([0x00, 0x00, 0x00, 0xFF, 0x8003, 0x20, 6], [0x40]) := by decide
/-- V6.10. -/
theorem test_rol_acc : seen [] (step { start 0x8000 [0x2A] [] with a := 0x40, flags := { Flags.clear with c := true } }) = ([0x81, 0x00, 0x00, 0xFF, 0x8001, 0xA0, 2], []) := by decide
/-- V6.12. -/
theorem test_rol_abs : seen [0x0300] (step { start 0x8000 [0x2E, 0x00, 0x03] [(0x0300, 0x00)] with flags := { Flags.clear with c := true } }) = ([0x00, 0x00, 0x00, 0xFF, 0x8003, 0x20, 6], [0x01]) := by decide
/-- V6.13. -/
theorem test_rol_zp : seen [0x0010] (step (start 0x8000 [0x26, 0x10] [(0x0010, 0xFF)])) = ([0x00, 0x00, 0x00, 0xFF, 0x8002, 0xA1, 5], [0xFE]) := by decide
/-- V6.14. -/
theorem test_ror_acc : seen [] (step { start 0x8000 [0x6A] [] with a := 0x03, flags := { Flags.clear with c := true } }) = ([0x81, 0x00, 0x00, 0xFF, 0x8001, 0xA1, 2], []) := by decide
/-- V6.16. -/
theorem test_ror_zpx : seen [0x0010] (step { start 0x8000 [0x76, 0x0F] [(0x0010, 0x00)] with x := 0x01, flags := { Flags.clear with c := true } }) = ([0x00, 0x01, 0x00, 0xFF, 0x8002, 0xA0, 6], [0x80]) := by decide
/-- V6.17. -/
theorem test_ror_absx : seen [0x0300] (step { start 0x8000 [0x7E, 0xFF, 0x02] [(0x0300, 0x02)] with x := 0x01 }) = ([0x00, 0x01, 0x00, 0xFF, 0x8003, 0x20, 7], [0x01]) := by decide
/-- V7.2. -/
theorem test_pha : seen [0x0100] (step { start 0x8000 [0x48] [] with a := 0x42, sp := 0x00 }) = ([0x42, 0x00, 0x00, 0xFF, 0x8001, 0x20, 3], [0x42]) := by decide
/-- V7.4. -/
theorem test_pla : seen [] (step { start 0x8000 [0x68] [(0x0100, 0x00)] with a := 0x09 }) = ([0x00, 0x00, 0x00, 0x00, 0x8001, 0x22, 4], []) := by decide
/-- V7.6. -/
theorem test_php : seen [0x01FF] (step { start 0x8000 [0x08] [] with flags := { Flags.clear with c := true, z := true, n := true } }) = ([0x00, 0x00, 0x00, 0xFE, 0x8001, 0xA3, 3], [0xB3]) := by decide
/-- V7.7. -/
theorem test_php_2 : seen [0x01FF] (step { start 0x8000 [0x08] [] with flags := { Flags.clear with v := true, d := true, i := true } }) = ([0x00, 0x00, 0x00, 0xFE, 0x8001, 0x6C, 3], [0x7C]) := by decide
/-- V7.8. -/
theorem test_plp : seen [] (step { start 0x8000 [0x28] [(0x01FF, 0xC3)] with sp := 0xFE }) = ([0x00, 0x00, 0x00, 0xFF, 0x8001, 0xE3, 4], []) := by decide
/-- V7.10. -/
theorem test_plp_2 : seen [] (step { start 0x8000 [0x28] [(0x01FF, 0x00)] with sp := 0xFE, flags := { Flags.clear with c := true, n := true, b := true } }) = ([0x00, 0x00, 0x00, 0xFF, 0x8001, 0x20, 4], []) := by decide
/-- V7.15. -/
theorem test_sec : seen [] (step (start 0x8000 [0x38] [])) = ([0x00, 0x00, 0x00, 0xFF, 0x8001, 0x21, 2], []) := by decide
/-- V7.16. -/
theorem test_clc : seen [] (step { start 0x8000 [0x18] [] with flags := { Flags.clear with c := true } }) = ([0x00, 0x00, 0x00, 0xFF, 0x8001, 0x20, 2], []) := by decide
/-- V7.17. -/
theorem test_sei : seen [] (step (start 0x8000 [0x78] [])) = ([0x00, 0x00, 0x00, 0xFF, 0x8001, 0x24, 2], []) := by decide
/-- V7.18. -/
theorem test_cli : seen [] (step { start 0x8000 [0x58] [] with flags := { Flags.clear with i := true } }) = ([0x00, 0x00, 0x00, 0xFF, 0x8001, 0x20, 2], []) := by decide
/-- V7.19. -/
theorem test_sed : seen [] (step (start 0x8000 [0xF8] [])) = ([0x00, 0x00, 0x00, 0xFF, 0x8001, 0x28, 2], []) := by decide
/-- V7.20. -/
theorem test_cld : seen [] (step { start 0x8000 [0xD8] [] with flags := { Flags.clear with d := true } }) = ([0x00, 0x00, 0x00, 0xFF, 0x8001, 0x20, 2], []) := by decide
/-- V7.22. -/
theorem test_clv : seen [] (step { start 0x8000 [0xB8] [] with flags := { Flags.clear with n := true, v := true, b := true, d := true, i := true, z := true, c := true } }) = ([0x00, 0x00, 0x00, 0xFF, 0x8001, 0xBF, 2], []) := by decide
/-- V7.23. -/
theorem test_nop : seen [] (step { start 0x8000 [0xEA] [] with a := 0x01, x := 0x02, y := 0x03, flags := { Flags.clear with n := true, c := true } }) = ([0x01, 0x02, 0x03, 0xFF, 0x8001, 0xA1, 2], []) := by decide
/-- V8.1. -/
theorem test_jmp_abs : seen [] (step (start 0x8000 [0x4C, 0x34, 0x12] [])) = ([0x00, 0x00, 0x00, 0xFF, 0x1234, 0x20, 3], []) := by decide
/-- V8.4. -/
theorem test_jmp_ind : seen [] (step (start 0x8000 [0x6C, 0xFF, 0x02] [(0x02FF, 0x80), (0x0200, 0x50), (0x0300, 0x40)])) = ([0x00, 0x00, 0x00, 0xFF, 0x5080, 0x20, 5], []) := by decide
/-- V8.5. -/
theorem test_jsr : seen [0x01FF, 0x01FE] (step (start 0x8000 [0x20, 0x30, 0x30] [])) = ([0x00, 0x00, 0x00, 0xFD, 0x3030, 0x20, 6], [0x80, 0x02]) := by decide
/-- V8.6. -/
theorem test_jsr_2 : seen [0x01FF, 0x01FE] (step (start 0xFFFD [0x20, 0x00, 0x90] [])) = ([0x00, 0x00, 0x00, 0xFD, 0x9000, 0x20, 6], [0xFF, 0xFF]) := by decide
/-- V8.9. -/
theorem test_rts : seen [] (step { start 0x8000 [0x60] [(0x01FE, 0xFF), (0x01FF, 0xFF)] with sp := 0xFD }) = ([0x00, 0x00, 0x00, 0xFF, 0x0000, 0x20, 6], []) := by decide
/-- V8.10. -/
theorem test_rts_2 : seen [] (step (start 0x8000 [0x60] [(0x0100, 0x33), (0x0101, 0x22)])) = ([0x00, 0x00, 0x00, 0x01, 0x2234, 0x20, 6], []) := by decide
/-- V8.12. -/
theorem test_bcc : seen [] (step { start 0x8000 [0x90, 0x10] [] with flags := { Flags.clear with c := true } }) = ([0x00, 0x00, 0x00, 0xFF, 0x8002, 0x21, 2], []) := by decide
/-- V8.13. -/
theorem test_bcs : seen [] (step (start 0x8000 [0xB0, 0x10] [])) = ([0x00, 0x00, 0x00, 0xFF, 0x8002, 0x20, 2], []) := by decide
/-- V8.14. -/
theorem test_bcs_2 : seen [] (step { start 0x8000 [0xB0, 0x10] [] with flags := { Flags.clear with c := true } }) = ([0x00, 0x00, 0x00, 0xFF, 0x8012, 0x21, 3], []) := by decide
/-- V8.15. -/
theorem test_beq : seen [] (step (start 0x8000 [0xF0, 0x10] [])) = ([0x00, 0x00, 0x00, 0xFF, 0x8002, 0x20, 2], []) := by decide
/-- V8.18. -/
theorem test_bne : seen [] (step { start 0x8000 [0xD0, 0x10] [] with flags := { Flags.clear with z := true } }) = ([0x00, 0x00, 0x00, 0xFF, 0x8002, 0x22, 2], []) := by decide
/-- V8.28. -/
theorem test_bne_2 : seen [] (step (start 0x8100 [0xD0, 0xFC] [])) = ([0x00, 0x00, 0x00, 0xFF, 0x80FE, 0x20, 4], []) := by decide
/-- V8.20. -/
theorem test_bmi : seen [] (step { start 0x8000 [0x30, 0x10] [] with flags := { Flags.clear with n := true } }) = ([0x00, 0x00, 0x00, 0xFF, 0x8012, 0xA0, 3], []) := by decide
/-- V8.22. -/
theorem test_bpl : seen [] (step { start 0x8000 [0x10, 0x10] [] with flags := { Flags.clear with n := true } }) = ([0x00, 0x00, 0x00, 0xFF, 0x8002, 0xA0, 2], []) := by decide
/-- V8.31. -/
theorem test_bpl_2 : seen [] (step (start 0x8080 [0x10, 0x80] [])) = ([0x00, 0x00, 0x00, 0xFF, 0x8002, 0x20, 3], []) := by decide
/-- V8.24. -/
theorem test_bvc : seen [] (step { start 0x8000 [0x50, 0x10] [] with flags := { Flags.clear with v := true } }) = ([0x00, 0x00, 0x00, 0xFF, 0x8002, 0x60, 2], []) := by decide
/-- V8.23. -/
theorem test_bvc_2 : seen [] (step (start 0x8000 [0x50, 0x10] [])) = ([0x00, 0x00, 0x00, 0xFF, 0x8012, 0x20, 3], []) := by decide
/-- V8.26. -/
theorem test_bvs : seen [] (step { start 0x8000 [0x70, 0x10] [] with flags := { Flags.clear with v := true } }) = ([0x00, 0x00, 0x00, 0xFF, 0x8012, 0x60, 3], []) := by decide
/-- V8.25. -/
theorem test_bvs_2 : seen [] (step (start 0x8000 [0x70, 0x10] [])) = ([0x00, 0x00, 0x00, 0xFF, 0x8002, 0x20, 2], []) := by decide
/-- V8.29. -/
theorem test_beq_2 : seen [] (step { start 0x80F0 [0xF0, 0x7F] [] with flags := { Flags.clear with z := true } }) = ([0x00, 0x00, 0x00, 0xFF, 0x8171, 0x22, 4], []) := by decide
/-- V8.32. -/
theorem test_bcc_2 : seen [] (step (start 0x8010 [0x90, 0x80] [])) = ([0x00, 0x00, 0x00, 0xFF, 0x7F92, 0x20, 4], []) := by decide
/-- V9.1. -/
theorem test_brk : seen [0x01FF, 0x01FE, 0x01FD] (step (start 0x8000 [0x00] [(0xFFFE, 0x05), (0xFFFF, 0x40)])) = ([0x00, 0x00, 0x00, 0xFC, 0x4005, 0x34, 7], [0x80, 0x02, 0x30]) := by decide
/-- V9.2. -/
theorem test_brk_2 : seen [0x0101, 0x0100, 0x01FF] (step { start 0xFFFF [0x00] [(0xFFFE, 0x05), (0x0000, 0x00)] with sp := 0x01, flags := { Flags.clear with c := true, n := true, i := true } }) = ([0x00, 0x00, 0x00, 0xFE, 0x0005, 0xB5, 7], [0x00, 0x01, 0xB5]) := by decide
/-- V9.5. -/
theorem test_rti : seen [] (step { start 0x8000 [0x40] [(0x01FD, 0xE3), (0x01FE, 0x34), (0x01FF, 0x12)] with sp := 0xFC }) = ([0x00, 0x00, 0x00, 0xFF, 0x1234, 0xE3, 6], []) := by decide
/-- V9.6. -/
theorem test_rti_2 : seen [] (step { start 0x8000 [0x40] [(0x01FF, 0x01), (0x0100, 0x00), (0x0101, 0x90)] with sp := 0xFE }) = ([0x00, 0x00, 0x00, 0x01, 0x9000, 0x21, 6], []) := by decide
/-- V9.13. -/
theorem test_nmi_entry : seen [0x01FF, 0x01FE, 0x01FD] (step { start 0x8123 [0xEA] [(0xFFFA, 0x00), (0xFFFB, 0x90)] with nmiPending := true, flags := { Flags.clear with z := true, c := true } }) = ([0x00, 0x00, 0x00, 0xFC, 0x9000, 0x27, 7], [0x81, 0x23, 0x23]) := by decide
/-- V9.14. -/
theorem test_nmi_entry_2 : seen [0x01FD] (step { start 0x8000 [0x02] [(0xFFFA, 0x00), (0xFFFB, 0x90)] with nmiPending := true, flags := { Flags.clear with i := true } }) = ([0x00, 0x00, 0x00, 0xFC, 0x9000, 0x24, 7], [0x24]) := by decide
/-- V10.11. -/
theorem test_sta_abs : seen [] (step { start 0x8000 [0x8D, 0x07, 0x20] [] with a := 0x55, ppu := { Ppu.powerOn with addr := 0x3FF0, ctrl := 0x04 } }) = ([0x55, 0x00, 0x00, 0xFF, 0x8003, 0x20, 4], [])
    ∧ ppuSeen (fun t => t.ppu.addr == 0x0010) (step { start 0x8000 [0x8D, 0x07, 0x20] [] with a := 0x55, ppu := { Ppu.powerOn with addr := 0x3FF0, ctrl := 0x04 } }) := by decide
/-- V10.15. -/
theorem test_inc_abs_2 : seen [0x2006] (step (start 0x8000 [0xEE, 0x06, 0x20] [(0x2006, 0x0F)])) = ([0x00, 0x00, 0x00, 0xFF, 0x8003, 0x20, 6], [0x10])
    ∧ ppuSeen (fun t => t.ppu.addr == 0x1000 && t.ppu.w == true) (step (start 0x8000 [0xEE, 0x06, 0x20] [(0x2006, 0x0F)])) := by decide
/-- V10.18. -/
theorem test_sta_abs_2 : seen [] (step { start 0x8000 [0x8D, 0x06, 0x20] [] with a := 0x12, ppu := { Ppu.powerOn with w := true, addr := 0x3F00 } }) = ([0x12, 0x00, 0x00, 0xFF, 0x8003, 0x20, 4], [])
    ∧ ppuSeen (fun t => t.ppu.addr == 0x3F12 && t.ppu.w == false) (step { start 0x8000 [0x8D, 0x06, 0x20] [] with a := 0x12, ppu := { Ppu.powerOn with w := true, addr := 0x3F00 } }) := by decide

/-- V9.8. -/
theorem test_illegal :
    let s := start 0x8000 [0x02] []
    let info : FaultInfo := ⟨0x02, 0x8000, 0⟩
    step s = .fault (.illegalOpcode (some info) { s with halted := true, faultInfo := some info }) := rfl

/-- V11.10. -/
theorem test_reset :
    let s := { start 0xFFFC [0x00, 0x80] [] with
      a := 0x12, x := 0x34, y := 0x56, sp := 0x20, cycles := 999, budget := -3, nmiPending := true, halted := true
      flags := ⟨true, true, true, true, true, true, true⟩, ppu := { Ppu.powerOn with ctrl := 0x80, w := true } }
    hostOp .reset s =
      .next { State.reset with pc := 0x8000, mem := s.mem, ppu := { Ppu.powerOn with ctrl := 0x80, w := true } } := rfl

/-- V11.17. -/
theorem test_runOneInstruction :
    ppuSeen (fun t => t.a == 0x30 && t.budget == -2 && t.cycles == 12)
      (hostOp .runOneInstruction { start 0x8000 [0xA9, 0x30] [] with budget := -5, cycles := 10 }) := by decide

/-- V11.18, tick 1. -/
theorem test_tick :
    ppuSeen (fun t => t.a == 0x30 && t.budget == -1 && t.cycles == 2) (hostOp .tick (start 0x8000 [0xA9, 0x30, 0xEA] [])) := by decide

/-- V11.22. -/
theorem test_ppuDataAccess :
    ppuSeen (fun t => t.ppu.addr == 0x0000)
      (hostOp .ppuDataAccess { State.reset with ppu := { Ppu.powerOn with addr := 0x3FE0, ctrl := 0x04 } }) := by decide

/-! Witnesses, in the order of the statements. -/

/-- A state whose next step is a NOP. -/
def nopNext : State := start 0x8000 [0xEA] []
/-- A state whose next step is the fault. -/
def illegalNext : State := start 0x8000 [0x02] []
/-- A state with a pending NMI. -/
def nmiNext : State := { nopNext with nmiPending := true }
/-- A halted state. -/
def haltedNow : State := { illegalNext with halted := true, faultInfo := some ⟨0x02, 0x8000, 0⟩ }
/-- `nopNext` after its fetch. -/
def nopFetched : State := { nopNext with pc := 0x8001 }
/-- `nopNext` after its step. -/
def nopDone : State := { nopNext with pc := 0x8001, cycles := 2, budget := -2 }

theorem test_witness_DecodeInvertsEncode : wellFormed (.staAbs 0xFFFF) = true ∧ wellFormed (.illegal 0xFF) = true := by decide
theorem test_witness_EncodeInvertsDecode :
    decode [0xBD, 0xFF, 0x44, 0x00] = .ok (.ldaAbsx 0x44FF, [0x00]) ∧ decode [0xFF] = .ok (.illegal 0xFF, []) := by decide
theorem test_witness_IllegalBytesAreThe105Listed :
    (0x02 : Byte) ∈ listedIllegal ∧ (0xFF : Byte) ∈ listedIllegal ∧ (0x00 : Byte) ∉ listedIllegal ∧ (0xFE : Byte) ∉ listedIllegal := by decide
theorem test_witness_StepRunsTheDecodedInstruction_legal :
    Fetches nopNext ∧ decode [nopNext.busRead nopNext.pc, nopNext.busRead (nopNext.pc + 1), nopNext.busRead (nopNext.pc + 2)] = .ok (.nop, [0, 0]) ∧
      exec .nop nopFetched = .next nopFetched := ⟨⟨rfl, rfl, rfl⟩, by decide, rfl⟩
theorem test_witness_StepRunsTheDecodedInstruction_illegal :
    Fetches illegalNext ∧
      decode [illegalNext.busRead illegalNext.pc, illegalNext.busRead (illegalNext.pc + 1), illegalNext.busRead (illegalNext.pc + 2)] =
        .ok (.illegal 0x02, [0, 0]) ∧
      exec (.illegal 0x02) { illegalNext with pc := 0x8001 } = .next haltedNow := ⟨⟨rfl, rfl, rfl⟩, by decide, rfl⟩
theorem test_witness_OnlyIllegalOpcodesStopAStep_halted : haltedNow.resetDone = true ∧ haltedNow.halted = true := by decide
theorem test_witness_OnlyIllegalOpcodesStopAStep_byte :
    illegalNext.resetDone = true ∧ illegalNext.halted = false ∧ illegalNext.nmiPending = false ∧ illegalNext.busRead illegalNext.pc ∈ listedIllegal := by decide
theorem test_witness_OnlyIllegalOpcodesStopAStep_runs :
    nopNext.resetDone = true ∧ nopNext.halted = false ∧ nopNext.busRead nopNext.pc ∉ listedIllegal ∧ step nopNext = .next nopDone :=
  ⟨rfl, rfl, by decide, rfl⟩
/-- V11.1, the ends of the three ranges. -/
theorem test_witness_MirrorFollowsTheTable :
    mirror 0x0000 = 0x0000 ∧ mirror 0x1FFF = 0x07FF ∧ mirror 0x2000 = 0x2000 ∧ mirror 0x3FFF = 0x2007 ∧ mirror 0x4000 = 0x4000 ∧
      mirror 0xFFFF = 0xFFFF := by decide
theorem test_witness_AliasedAddressesHoldOneByte_ram : (0x07FF : Addr).toNat ≤ 0x1FFF ∧ (0x1FFF : Addr).toNat ≤ 0x1FFF ∧
    (0x07FF : Addr).toNat % 2048 = (0x1FFF : Addr).toNat % 2048 ∧ (State.reset.busWrite 0x07FF 0x5A).busRead 0x1FFF = 0x5A := by decide
theorem test_witness_AliasedAddressesHoldOneByte_window : 0x2000 ≤ (0x2000 : Addr).toNat ∧ (0x3FF8 : Addr).toNat ≤ 0x3FFF ∧
    (0x2000 : Addr).toNat % 8 = (0x3FF8 : Addr).toNat % 8 ∧ (State.reset.busWrite 0x2000 0x5A).busRead 0x3FF8 = 0x5A := by decide
theorem test_witness_AliasedAddressesHoldOneByte_apart : (0x1FFF : Addr).toNat % 2048 ≠ (0x1800 : Addr).toNat % 2048 ∧ (0x2000 : Addr) ≠ 0x1FFF ∧
    (State.reset.busWrite 0x1FFF 0x5A).busRead 0x2000 = 0x00 ∧ (State.reset.busWrite 0x3FFF 0x5A).busRead 0x4000 = 0x00 := by decide
theorem test_witness_AliasedAddressesHoldOneByte_raw : mirror 0x0800 ≠ 0x0800 ∧ mirror 0x1FFF ≠ 0x1FFF ∧ mirror 0x2008 ≠ 0x2008 ∧ mirror 0x3FFF ≠ 0x3FFF ∧
    (State.reset.busWrite 0x0800 0x5A).rawRead 0x0800 = 0x00 := by decide
theorem test_witness_RegisterWindowWrites_ctrl_mask : (mirror 0x3FF8).toNat = 0x2000 ∧ (mirror 0x3FF9).toNat = 0x2001 := by decide
theorem test_witness_RegisterWindowWrites_scroll : (mirror 0x3FFD).toNat = 0x2005 ∧ Ppu.powerOn.w = false ∧ { Ppu.powerOn with w := true }.w = true := by decide
theorem test_witness_RegisterWindowWrites_addr : (mirror 0x3FFE).toNat = 0x2006 ∧ (mirror 0x3FFF).toNat = 0x2007 := by decide
theorem test_witness_RegisterWindowWrites_none : (mirror 0x1FFF).toNat < 0x2000 ∧ (mirror 0x3FFA).toNat = 0x2002 ∧ (mirror 0x3FFB).toNat = 0x2003 ∧
    (mirror 0x3FFC).toNat = 0x2004 ∧ 0x2008 ≤ (mirror 0x4000).toNat := by decide
theorem test_witness_SixteenBitReadsWrapAsTheirRulesSay : (0x02FE : Addr).toNat % 256 ≠ 255 ∧ (0x0300 : Addr).toNat % 256 ≠ 255 := by decide
theorem test_witness_DecimalModeDoesNothing : (Instr.adcImm 0x01).opcode = 0x69 ∧ (Instr.sbcIndy 0x01).opcode = 0xF1 ∧
    ∃ t, exec (.adcImm 0x01) { State.reset with a := 0x09 } = .next t ∧ t.a = 0x0A := ⟨rfl, rfl, _, rfl, by decide⟩
theorem test_witness_NmiIsTakenAtTheNextStep_and_RtiReturnsFromBothTraps : nmiNext.resetDone = true ∧ nmiNext.halted = false ∧ nmiNext.nmiPending = true := by decide
theorem test_witness_IllegalOpcodeHaltsPrecisely : Fetches illegalNext ∧ illegalNext.busRead illegalNext.pc ∈ listedIllegal := ⟨⟨rfl, rfl, rfl⟩, by decide⟩
theorem test_witness_HaltedUntilReset : haltedNow.resetDone = true ∧ haltedNow.halted = true := by decide
theorem test_witness_HaltedUntilReset_next : HostOp.loadProgram [] ≠ .reset ∧ HostOp.triggerNmi ≠ .reset ∧
    hostOp .triggerNmi haltedNow = .next { haltedNow with nmiPending := true } := ⟨by decide, by decide, rfl⟩
theorem test_witness_HaltedUntilReset_fault : HostOp.tick ≠ .reset ∧ hostOp .tick haltedNow = .fault (.illegalOpcode haltedNow.faultInfo haltedNow) :=
  ⟨by decide, rfl⟩
theorem test_witness_ResetLeavesTheResetState : State.powerOn.resetDone = false := by decide
theorem test_witness_LoadProgramFillsBothWindows : 16400 ≤ (List.replicate 16400 (0 : Byte)).length ∧ (List.replicate 16399 (0 : Byte)).length < 16400 ∧
    (0x7FFF : Addr).toNat < 0x8000 ∧ 16383 < 16384 :=
  ⟨by rw [List.length_replicate], by rw [List.length_replicate]; decide, by decide, by decide⟩
theorem test_witness_RunOneInstructionIsOneStep : nopNext.resetDone = true ∧ nopNext.halted = false ∧ hostOp .runOneInstruction nopNext = .next nopDone := ⟨rfl, rfl, rfl⟩
theorem test_witness_TickRunsUntilTheBudgetIsSpent_waits : { nopNext with budget := -2 }.budget + 1 < 0 := by decide
theorem test_witness_TickRunsUntilTheBudgetIsSpent_steps : 0 ≤ { nopNext with budget := -1 }.budget + 1 ∧ hostOp .tick { nopNext with budget := -1 } = .next nopDone := ⟨by decide, rfl⟩
theorem test_witness_TickRunsUntilTheBudgetIsSpent_faults : 0 ≤ { illegalNext with budget := -1 }.budget + 1 ∧
    step illegalNext = .fault (.illegalOpcode (some ⟨0x02, 0x8000, 0⟩) haltedNow) := ⟨by decide, rfl⟩
theorem test_witness_TickRunsUntilTheBudgetIsSpent_lowers : nopNext.resetDone = true ∧ nopNext.halted = false ∧ step nopNext = .next nopDone :=
  ⟨rfl, rfl, rfl⟩
theorem test_witness_PageCrossingsAreChargedToReadsAndBranches_base :
    (Instr.nop).opcode ∉ ([0xBD, 0xBC, 0x7D, 0xFD, 0x3D, 0x1D, 0x5D, 0xDD, 0xB9, 0xBE, 0x79, 0xF9, 0x39, 0x19, 0x59, 0xD9, 0xB1, 0x71, 0xF1, 0x31, 0x11, 0x51, 0xD1, 0x90, 0xB0, 0xF0, 0xD0, 0x30, 0x10, 0x50, 0x70] : List Byte) ∧ (Instr.ldaImm 0xFF).opcode ∉ ([0xBD, 0xBC, 0x7D, 0xFD, 0x3D, 0x1D, 0x5D, 0xDD, 0xB9, 0xBE, 0x79, 0xF9, 0x39, 0x19, 0x59, 0xD9, 0xB1, 0x71, 0xF1, 0x31, 0x11, 0x51, 0xD1, 0x90, 0xB0, 0xF0, 0xD0, 0x30, 0x10, 0x50, 0x70] : List Byte) ∧
    (Instr.illegal 0x02).opcode ∉ ([0xBD, 0xBC, 0x7D, 0xFD, 0x3D, 0x1D, 0x5D, 0xDD, 0xB9, 0xBE, 0x79, 0xF9, 0x39, 0x19, 0x59, 0xD9, 0xB1, 0x71, 0xF1, 0x31, 0x11, 0x51, 0xD1, 0x90, 0xB0, 0xF0, 0xD0, 0x30, 0x10, 0x50, 0x70] : List Byte) := by decide
theorem test_witness_TimingChangesNothingElse : step nopNext = .next nopDone := rfl
theorem test_witness_OnlyControlTransfersMovePc : Fetches nopNext ∧ step nopNext = .next nopDone ∧
    (Instr.nop).opcode ∉ ([0x4C, 0x6C, 0x20, 0x60, 0x90, 0xB0, 0xF0, 0xD0, 0x30, 0x10, 0x50, 0x70, 0x00, 0x40] : List Byte) :=
  ⟨⟨rfl, rfl, rfl⟩, rfl, by decide⟩
theorem test_witness_FlagsChangeOnlyWhereTheTableSays : exec .nop nopFetched = .next nopFetched ∧
    (Instr.nop).opcode ∉ ([0xD8, 0xF8, 0x28, 0x40] : List Byte) ∧
    (Instr.nop).opcode ∉ ([0x58, 0x78, 0x28, 0x40, 0x00] : List Byte) ∧
    (Instr.nop).opcode ∉ ([0x28, 0x40, 0x00] : List Byte) ∧
    (Instr.nop).opcode ∉ ([0x69, 0x65, 0x75, 0x6D, 0x7D, 0x79, 0x61, 0x71, 0xE9, 0xE5, 0xF5, 0xED, 0xFD, 0xF9, 0xE1, 0xF1, 0x24, 0x2C, 0xB8, 0x28, 0x40] : List Byte) ∧
    (Instr.nop).opcode ∉ ([0x69, 0x65, 0x75, 0x6D, 0x7D, 0x79, 0x61, 0x71, 0xE9, 0xE5, 0xF5, 0xED, 0xFD, 0xF9, 0xE1, 0xF1, 0x0A, 0x06, 0x16, 0x0E, 0x1E, 0x4A, 0x46, 0x56, 0x4E, 0x5E, 0x2A, 0x26, 0x36, 0x2E, 0x3E, 0x6A, 0x66, 0x76, 0x6E, 0x7E, 0xC9, 0xC5, 0xD5, 0xCD, 0xDD, 0xD9, 0xC1, 0xD1, 0xE0, 0xE4, 0xEC, 0xC0, 0xC4, 0xCC, 0x18, 0x38, 0x28, 0x40] : List Byte) ∧
    (Instr.nop).opcode ∉ ([0xA9, 0xA5, 0xB5, 0xAD, 0xBD, 0xB9, 0xA1, 0xB1, 0xA2, 0xA6, 0xB6, 0xAE, 0xBE, 0xA0, 0xA4, 0xB4, 0xAC, 0xBC, 0xAA, 0xA8, 0x8A, 0x98, 0xBA, 0x68, 0x29, 0x25, 0x35, 0x2D, 0x3D, 0x39, 0x21, 0x31, 0x09, 0x05, 0x15, 0x0D, 0x1D, 0x19, 0x01, 0x11, 0x49, 0x45, 0x55, 0x4D, 0x5D, 0x59, 0x41, 0x51, 0xE6, 0xF6, 0xEE, 0xFE, 0xC6, 0xD6, 0xCE, 0xDE, 0xE8, 0xC8, 0xCA, 0x88, 0x69, 0x65, 0x75, 0x6D, 0x7D, 0x79, 0x61, 0x71, 0xE9, 0xE5, 0xF5, 0xED, 0xFD, 0xF9, 0xE1, 0xF1, 0x0A, 0x06, 0x16, 0x0E, 0x1E, 0x4A, 0x46, 0x56, 0x4E, 0x5E, 0x2A, 0x26, 0x36, 0x2E, 0x3E, 0x6A, 0x66, 0x76, 0x6E, 0x7E, 0xC9, 0xC5, 0xD5, 0xCD, 0xDD, 0xD9, 0xC1, 0xD1, 0xE0, 0xE4, 0xEC, 0xC0, 0xC4, 0xCC, 0x24, 0x2C, 0x28, 0x40] : List Byte) := ⟨rfl, by decide⟩
theorem test_witness_RegistersAndMemoryChangeOnlyByTheirWriters : exec .nop nopFetched = .next nopFetched ∧
    (Instr.nop).opcode ∉ ([0xA9, 0xA5, 0xB5, 0xAD, 0xBD, 0xB9, 0xA1, 0xB1, 0x8A, 0x98, 0x69, 0x65, 0x75, 0x6D, 0x7D, 0x79, 0x61, 0x71, 0xE9, 0xE5, 0xF5, 0xED, 0xFD, 0xF9, 0xE1, 0xF1, 0x29, 0x25, 0x35, 0x2D, 0x3D, 0x39, 0x21, 0x31, 0x09, 0x05, 0x15, 0x0D, 0x1D, 0x19, 0x01, 0x11, 0x49, 0x45, 0x55, 0x4D, 0x5D, 0x59, 0x41, 0x51, 0x68, 0x0A, 0x4A, 0x2A, 0x6A] : List Byte) ∧
    (Instr.nop).opcode ∉ ([0xA2, 0xA6, 0xB6, 0xAE, 0xBE, 0xAA, 0xBA, 0xE8, 0xCA] : List Byte) ∧
    (Instr.nop).opcode ∉ ([0xA0, 0xA4, 0xB4, 0xAC, 0xBC, 0xA8, 0xC8, 0x88] : List Byte) ∧
    (Instr.nop).opcode ∉ ([0x9A, 0x48, 0x68, 0x08, 0x28, 0x20, 0x60, 0x00, 0x40] : List Byte) ∧
    (Instr.nop).opcode ∉ ([0x85, 0x95, 0x8D, 0x9D, 0x99, 0x81, 0x91, 0x86, 0x96, 0x8E, 0x84, 0x94, 0x8C, 0xE6, 0xF6, 0xEE, 0xFE, 0xC6, 0xD6, 0xCE, 0xDE, 0x48, 0x08, 0x20, 0x00, 0x06, 0x16, 0x0E, 0x1E, 0x46, 0x56, 0x4E, 0x5E, 0x26, 0x36, 0x2E, 0x3E, 0x66, 0x76, 0x6E, 0x7E] : List Byte) ∧
    (Instr.nop).opcode ∉ ([0x85, 0x95, 0x8D, 0x9D, 0x99, 0x81, 0x91, 0x86, 0x96, 0x8E, 0x84, 0x94, 0x8C, 0xE6, 0xF6, 0xEE, 0xFE, 0xC6, 0xD6, 0xCE, 0xDE, 0x06, 0x16, 0x0E, 0x1E, 0x46, 0x56, 0x4E, 0x5E, 0x26, 0x36, 0x2E, 0x3E, 0x66, 0x76, 0x6E, 0x7E] : List Byte) := ⟨rfl, by decide⟩
theorem test_witness_NonCanonicalBytesAreNeverWritten : step nopNext = .next nopDone ∧ (0x0800 : Addr).toNat = 0x0800 ∧ (0x1FFF : Addr).toNat ≤ 0x1FFF ∧
    0x2008 ≤ (0x2008 : Addr).toNat ∧ (0x3FFF : Addr).toNat ≤ 0x3FFF := ⟨rfl, by decide⟩
theorem test_witness_ParametersActAsDescribed_narrowed :
    Fetches nopNext ∧ { config with implemented := fun op => op != 0xEA }.implemented (nopNext.busRead nopNext.pc) = false :=
  ⟨⟨rfl, rfl, rfl⟩, by decide⟩
theorem test_witness_ParametersActAsDescribed_brk : Fetches (start 0x8000 [0x00] []) ∧ (start 0x8000 [0x00] []).busRead 0x8000 = 0x00 ∧
    { config with brkReturnOffset := 1 }.implemented 0x00 = true := ⟨⟨rfl, rfl, rfl⟩, by decide, by decide⟩
theorem test_witness_ParametersActAsDescribed_noFetch : ¬ Fetches haltedNow ∧ ¬ Fetches nmiNext ∧ ¬ Fetches State.powerOn :=
  ⟨fun h => absurd h.2.1 (by decide), fun h => absurd h.2.2 (by decide), fun h => absurd h.1 (by decide)⟩
theorem test_witness_ParametersActAsDescribed_other : Fetches nopNext ∧ { config with cycleTable := fun _ => 9 }.implemented (nopNext.busRead nopNext.pc) = true ∧
    nopNext.busRead nopNext.pc ≠ 0x00 ∧ step nopNext = .next nopDone := ⟨⟨rfl, rfl, rfl⟩, by decide, by decide, rfl⟩
theorem test_witness_ParametersActAsDescribed_otherFault : Fetches illegalNext ∧ config.implemented (illegalNext.busRead illegalNext.pc) = true ∧
    illegalNext.busRead illegalNext.pc ≠ 0x00 ∧ step illegalNext = .fault (.illegalOpcode (some ⟨0x02, 0x8000, 0⟩) haltedNow) :=
  ⟨⟨rfl, rfl, rfl⟩, by decide, by decide, rfl⟩
theorem test_witness_StepKeepsTheInvariant_next : nopNext.Inv ∧ stepWith config nopNext = .next nopDone :=
  ⟨⟨by decide, by decide, by decide⟩, rfl⟩
theorem test_witness_StepKeepsTheInvariant_fault :
    illegalNext.Inv ∧ stepWith config illegalNext = .fault (.illegalOpcode (some ⟨0x02, 0x8000, 0⟩) haltedNow) :=
  ⟨⟨by decide, by decide, by decide⟩, rfl⟩
theorem test_witness_EveryReachableStateIsSound : HostReachable State.reset := .operation .reset .powerOn .reset .powerOn rfl
theorem test_witness_HostOperationsTakeTheParameters_cases :
    HostOp.loadProgram [] ∉ ([.reset, .runOneInstruction, .tick] : List HostOp) ∧ State.powerOn.resetDone = false ∧
    haltedNow.resetDone = true ∧ haltedNow.halted = true ∧ nopNext.resetDone = true ∧ nopNext.halted = false := by decide
theorem test_witness_HostOperationsTakeTheParameters_waits : { nopNext with budget := -2 }.budget + 1 < 0 := by decide
theorem test_witness_HostOperationsTakeTheParameters_steps : 0 ≤ { nopNext with budget := -1 }.budget + 1 ∧
    hostOpWith { config with cycleTable := fun _ => 1 } 1 .tick { nopNext with budget := -1 } =
      some (.next { nopNext with pc := 0x8001, cycles := 1, budget := -1 }) := ⟨by decide, rfl⟩
theorem test_witness_HostOperationsTakeTheParameters_faults : 0 ≤ { illegalNext with budget := -1 }.budget + 1 ∧
    stepWith config illegalNext = .fault (.illegalOpcode (some ⟨0x02, 0x8000, 0⟩) haltedNow) := ⟨by decide, rfl⟩
theorem test_witness_HostOperationsTakeTheParameters_charges :
    ∀ i : Instr, (∀ op, i ≠ .illegal op) → 1 ≤ { config with cycleTable := fun _ => 1 }.cycleTable i.opcode := fun _ _ => Nat.le_refl 1
theorem test_witness_HostOperationsTakeTheParameters_enough : { nopNext with budget := -1 }.budget + 2 ≤ ((1 : Nat) : Int) ∧ 1 ≤ 9 := by decide
/-- A table that charges NOP nothing (92_eei_decisions.md, parameter table): the loop of R271 goes on to the next instruction and ends there. -/
theorem test_tick_freeNop :
    hostOpWith { config with cycleTable := fun op => if op = 0xEA then 0 else 2 } 3 .tick { start 0x8000 [0xEA, 0xEA, 0xE8] [] with budget := -1 } =
      some (.next { start 0x8000 [0xEA, 0xEA, 0xE8] [] with x := 0x01, pc := 0x8003, cycles := 2, budget := -2 }) := rfl
/-- V11.12, the reset under `RESET_ZEROES_MEMORY`. -/
theorem test_reset_zeroes :
    hostOpWith { config with resetZeroesMemory := true } 0 .reset { start 0xFFFC [0x00, 0x80] [] with a := 0x12 } = some (.next .reset) := rfl
/-- V10.1, scenario 6 of the source, through an alias. -/
theorem test_witness_PpuFieldsFollowTheirLayout : (mirror 0x2000).toNat = 0x2000 ∧ (mirror 0x3FF8).toNat = 0x2000 ∧ (mirror 0x3FF9).toNat = 0x2001 ∧
    (State.reset.busWrite 0x3FF8 0x02).ppu.nametableBase = 0x2800 := by decide
theorem test_witness_HostOperationsKeepTheInvariant_next : State.reset.Inv ∧ (∀ b : Addr, mirror b ≠ b → State.reset.rawRead b = 0) ∧
    hostOpWith config 0 .triggerNmi .reset = some (.next { State.reset with nmiPending := true }) :=
  ⟨⟨by decide, by decide, by decide⟩, fun _ _ => rfl, rfl⟩
/-- The reset state, halted. -/
def haltedReset : State := { State.reset with halted := true, faultInfo := some ⟨0x02, 0x0000, 0⟩ }
theorem test_witness_HostOperationsKeepTheInvariant_fault : haltedReset.Inv ∧ (∀ b : Addr, mirror b ≠ b → haltedReset.rawRead b = 0) ∧
    hostOpWith config 0 .tick haltedReset = some (.fault (.illegalOpcode haltedReset.faultInfo haltedReset)) :=
  ⟨⟨by decide, by decide, by decide⟩, fun _ _ => rfl, rfl⟩

end Sys2Proof.Tests.Slice0
end

section
/-! SUPPORT. The frame of a meaning: the counters, the pending NMI, the reset bit and the halted state are the step's and the host's (60_exceptions.md R231,
70_reset_and_hazards.md R280), and only the illegal opcode writes one of them. -/

namespace Sys2Proof.Machine

/-- `t` has the counters and the hidden state of `s`. -/
structure SameControl (s t : State) : Prop where
  cycles : t.cycles = s.cycles
  budget : t.budget = s.budget
  nmiPending : t.nmiPending = s.nmiPending
  resetDone : t.resetDone = s.resetDone
  halted : t.halted = s.halted
  faultInfo : t.faultInfo = s.faultInfo

theorem SameControl.of_advance {s t : State} {i : Instr} (h : SameControl (s.advance i) t) : SameControl s t :=
  ⟨h.cycles, h.budget, h.nmiPending, h.resetDone, h.halted, h.faultInfo⟩

theorem SameControl.branch (s : State) (cond : Cond) (off : Byte) : SameControl s (s.branch cond off) := by
  rw [State.branch_eq]
  exact ⟨rfl, rfl, rfl, rfl, rfl, rfl⟩

theorem SameControl.breakWith (s : State) (offset : Addr) : SameControl s (s.breakWith offset) := by
  constructor <;> simp [State.breakWith]

theorem SameControl.push8 (s : State) (v : Byte) : SameControl s (s.push8 v) := by
  constructor <;> simp

theorem SameControl.jumpSubroutine (s : State) (target : Addr) : SameControl s (s.jumpSubroutine target) := by
  constructor <;> simp [State.jumpSubroutine]

theorem SameControl.returnFromTrap (s : State) : SameControl s s.returnFromTrap := by
  constructor <;> simp [State.returnFromTrap]

theorem SameControl.modifyOperand (s : State) (f : Byte → Flags → Byte × Flags) (m : MemOperand) : SameControl s (s.modifyOperand f m) := by
  constructor <;> simp [State.modifyOperand, State.writeOperand]

/-- The meaning of a defined opcode is an update of registers, flags, memory and PPU records. -/
theorem exec_sameControl {i : Instr} (hi : ∀ op, i ≠ .illegal op) (s : State) : ∃ t, exec i s = .next t ∧ SameControl s t := by
  cases i with
  | illegal op => exact absurd rfl (hi op)
  | bcc off | bcs off | beq off | bne off | bmi off | bpl off | bvc off | bvs off => exact ⟨_, rfl, .branch s _ off⟩
  | brk => exact ⟨_, rfl, .breakWith s _⟩
  | pha | php => exact ⟨_, rfl, .push8 s _⟩
  | jsr addr => exact ⟨_, rfl, .jumpSubroutine s addr⟩
  | rti => exact ⟨_, rfl, .returnFromTrap s⟩
  | incZp m | incZpx m | incAbs m | incAbsx m | decZp m | decZpx m | decAbs m | decAbsx m
  | aslZp m | aslZpx m | aslAbs m | aslAbsx m | lsrZp m | lsrZpx m | lsrAbs m | lsrAbsx m
  | rolZp m | rolZpx m | rolAbs m | rolAbsx m | rorZp m | rorZpx m | rorAbs m | rorAbsx m => exact ⟨_, rfl, .modifyOperand s _ _⟩
  | _ => exact ⟨_, rfl, rfl, rfl, rfl, rfl, rfl, rfl⟩

theorem execWith_sameControl (cfg : Config) {i : Instr} (hi : ∀ op, i ≠ .illegal op) (s : State) :
    ∃ t, execWith cfg i s = .next t ∧ SameControl s t := by
  by_cases hb : i = .brk
  · subst hb
    exact ⟨_, execWith_brk cfg s, .breakWith s _⟩
  · rw [execWith_of_ne cfg hb]
    exact exec_sameControl hi s

end Sys2Proof.Machine
end

section
/-! SUPPORT. What a step under any configuration leaves behind, said once: a fetch either faults or charges its instruction; a completing step leaves the CPU running and moves
as many cycles from `budget` to `cycles` as it costs (70_reset_and_hazards.md R273, R280). -/

namespace Sys2Proof.Machine

/-- A fetch ends in the illegal-opcode fault, or completes and is charged the cost of the instruction. -/
theorem runInstruction_cases (cfg : Config) {s : State} (hh : s.halted = false) :
    (∃ op, s.fetch cfg.implemented = .illegal op ∧ runInstruction cfg s =
      .fault (.illegalOpcode (some ⟨op, s.pc, s.cycles⟩) { s with halted := true, faultInfo := some ⟨op, s.pc, s.cycles⟩ })) ∨
    (∃ i t, s.fetch cfg.implemented = i ∧ (∀ op, i ≠ .illegal op) ∧ execWith cfg i (s.advance i) = .next t ∧ SameControl s t ∧
      runInstruction cfg s = .next (t.charge (cycleCost cfg.cycleTable i (s.advance i)))) := by
  by_cases hi : ∃ op, s.fetch cfg.implemented = .illegal op
  · obtain ⟨op, hop⟩ := hi
    refine .inl ⟨op, hop, ?_⟩
    have pc_back : s.pc + 1 - 1 = s.pc := by bv_omega
    have left : (s.advance (.illegal op)).raiseIllegal op =
        { s with halted := true, faultInfo := some ⟨op, s.pc, s.cycles⟩ } :=
      congrArg (fun pc => { s with halted := true, faultInfo := some ⟨op, pc, s.cycles⟩, pc := pc }) pc_back
    have halts := finishStep_halted cfg (.illegal op) (s.advance (.illegal op)) (State.raiseIllegal_halted (s.advance (.illegal op)) op)
    rw [left] at halts
    rw [runInstruction, hop, ← halts, ← left]
    rfl
  · rw [not_exists] at hi
    obtain ⟨t, ht, same⟩ := execWith_sameControl cfg hi (s.advance (s.fetch cfg.implemented))
    refine .inr ⟨_, t, rfl, hi, ht, same.of_advance, ?_⟩
    rw [runInstruction, ht]
    exact finishStep_running cfg _ _ (same.halted.trans hh)

/-- A completing step is the charge of an NMI entry or of an instruction, on a CPU that it leaves running. -/
theorem stepWith_next_charge {cfg : Config} {s t : State} (h : stepWith cfg s = .next t) :
    ∃ (u : State) (n : Nat), t = u.charge n ∧ u.cycles = s.cycles ∧ u.budget = s.budget ∧ u.resetDone = true ∧ u.halted = false ∧
      (n = nmiCycles ∨ ∃ i : Instr, (∀ op, i ≠ .illegal op) ∧ cfg.cycleTable i.opcode ≤ n) := by
  obtain ⟨-, e⟩ | ⟨-, -, e⟩ | ⟨hr, hh, -, e⟩ | ⟨hr, hh, -, e⟩ := stepWith_cases cfg s <;> rw [e] at h
  · cases h
  · cases h
  · cases h
    exact ⟨s.enterNmi, nmiCycles, rfl, by simp [State.enterNmi, hr, hh]⟩
  · obtain ⟨_, -, e'⟩ | ⟨i, u, -, hi, -, same, e'⟩ := runInstruction_cases cfg hh <;> rw [e'] at h <;> cases h
    exact ⟨u, _, rfl, same.cycles, same.budget, same.resetDone.trans hr, same.halted.trans hh, .inr ⟨i, hi, Nat.le_add_right _ _⟩⟩

theorem stepWith_next_running {cfg : Config} {s t : State} (h : stepWith cfg s = .next t) : t.resetDone = true ∧ t.halted = false := by
  obtain ⟨u, n, rfl, -, -, hr, hh, -⟩ := stepWith_next_charge h
  exact ⟨hr, hh⟩

/-- What a step takes from the budget it adds to the cycles (70_reset_and_hazards.md R280). -/
theorem stepWith_next_account {cfg : Config} {s t : State} (h : stepWith cfg s = .next t) :
    (t.cycles : Int) + t.budget = s.cycles + s.budget := by
  obtain ⟨u, n, rfl, hc, hb, -⟩ := stepWith_next_charge h
  simp only [State.charge_cycles, State.charge_budget, hc, hb]
  omega

/-- Every instruction is charged: the hypothesis under which "every step lowers `budget` by at least 1" (70_reset_and_hazards.md R271). -/
def ChargesEveryInstruction (cfg : Config) : Prop := ∀ i : Instr, (∀ op, i ≠ .illegal op) → 1 ≤ cfg.cycleTable i.opcode

theorem stepWith_next_budget_lt {cfg : Config} (hcfg : ChargesEveryInstruction cfg) {s t : State} (h : stepWith cfg s = .next t) :
    t.budget < s.budget := by
  obtain ⟨u, n, rfl, -, hb, -, -, hn⟩ := stepWith_next_charge h
  have pos : 1 ≤ n := by
    obtain rfl | ⟨i, hi, hle⟩ := hn
    · decide
    · exact (hcfg i hi).trans hle
  rw [State.charge_budget, hb]
  omega

/-- A step is refused before the first reset only (70_reset_and_hazards.md R264). -/
theorem stepWith_ne_refused (cfg : Config) {s : State} (hr : s.resetDone = true) (r : Refusal) : stepWith cfg s ≠ .refused r := by
  obtain ⟨hr', -⟩ | ⟨-, -, e⟩ | ⟨-, -, -, e⟩ | ⟨-, hh, -, e⟩ := stepWith_cases cfg s
  · rw [hr] at hr'; cases hr'
  · rw [e]; nofun
  · rw [e]; nofun
  · obtain ⟨_, -, e'⟩ | ⟨_, _, -, -, -, -, e'⟩ := runInstruction_cases cfg hh <;> rw [e, e'] <;> nofun

/-- The documented table charges every defined opcode (70_reset_and_hazards.md R282). -/
theorem config_chargesEveryInstruction : ChargesEveryInstruction config := by
  intro i hi
  cases i with
  | illegal op => exact absurd rfl (hi op)
  | _ => exact of_decide_eq_true rfl

end Sys2Proof.Machine
end

section
/-! SUPPORT. The loop of `tick` as a whole: what it keeps, and when it ends (70_reset_and_hazards.md R271). -/

namespace Sys2Proof.Machine

/-- A refused step ends the loop with its refusal. -/
theorem stepWhileBudget_refused (cfg : Config) (steps : Nat) {s : State} {r : Refusal} (h : 0 ≤ s.budget) (hr : stepWith cfg s = .refused r) :
    stepWhileBudget cfg (steps + 1) s = some (.refused r) := by
  simp [stepWhileBudget, h, hr]

/-- The loop that ends has spent the budget, each cycle of it an elapsed one. -/
theorem stepWhileBudget_account (cfg : Config) (steps : Nat) (s t : State) (h : stepWhileBudget cfg steps s = some (.next t)) :
    t.budget < 0 ∧ (t.cycles : Int) + t.budget = s.cycles + s.budget := by
  induction steps generalizing s with
  | zero =>
    by_cases hb : 0 ≤ s.budget
    · rw [stepWhileBudget_zero cfg hb] at h; cases h
    · rw [stepWhileBudget_spent cfg 0 (by omega)] at h
      cases h
      exact ⟨by omega, rfl⟩
  | succ steps ih =>
    by_cases hb : 0 ≤ s.budget
    · cases hs : stepWith cfg s with
      | next u =>
        rw [stepWhileBudget_next cfg steps hb hs] at h
        obtain ⟨spent, account⟩ := ih u h
        exact ⟨spent, account.trans (stepWith_next_account hs)⟩
      | fault f => rw [stepWhileBudget_fault cfg steps hb hs] at h; cases h
      | refused r => rw [stepWhileBudget_refused cfg steps hb hs] at h; cases h
    · rw [stepWhileBudget_spent cfg _ (by omega)] at h
      cases h
      exact ⟨by omega, rfl⟩

/-- Where every instruction is charged the budget is the measure by which the loop ends. -/
theorem stepWhileBudget_ends {cfg : Config} (hcfg : ChargesEveryInstruction cfg) (steps : Nat) (s : State) (hr : s.resetDone = true)
    (enough : s.budget + 1 ≤ steps) : ∃ a, stepWhileBudget cfg steps s = some a ∧ ∀ r, a ≠ .refused r := by
  induction steps generalizing s with
  | zero => exact ⟨_, stepWhileBudget_spent cfg 0 (by omega), nofun⟩
  | succ steps ih =>
    by_cases hb : 0 ≤ s.budget
    · cases hs : stepWith cfg s with
      | next t =>
        have lower := stepWith_next_budget_lt hcfg hs
        rw [stepWhileBudget_next cfg steps hb hs]
        exact ih t (stepWith_next_running hs).1 (by omega)
      | fault f => exact ⟨_, stepWhileBudget_fault cfg steps hb hs, nofun⟩
      | refused r => exact absurd hs (stepWith_ne_refused cfg hr r)
    · exact ⟨_, stepWhileBudget_spent cfg _ (by omega), nofun⟩

/-- The loop goes on from a step that completes as a `tick` whose added cycle was taken back. -/
theorem stepWhileBudget_eq_tickWith (cfg : Config) (steps : Nat) {t : State} (hr : t.resetDone = true) (hh : t.halted = false) :
    stepWhileBudget cfg steps t = tickWith cfg steps { t with budget := t.budget - 1 } := by
  rw [tickWith_running cfg steps (s := { t with budget := t.budget - 1 }) hr hh]
  simp only [Int.sub_add_cancel]

end Sys2Proof.Machine
end

section
/-! The host operations under any configuration (00_scope.md R4, 70_reset_and_hazards.md R270 to R272). -/

namespace Sys2Proof.Machine

/-- A CPU without a step: `runOneInstruction` and `tick` answer what `step` answers (60_exceptions.md R234; log entry 4). -/
theorem hostOpWith_of_not_canStep (cfg : Config) (steps : Nat) {op : HostOp} (hop : op ∈ ([.runOneInstruction, .tick] : List HostOp)) {s : State}
    (h : s.canStep = false) : hostOpWith cfg steps op s = some (stepWith cfg s) := by
  obtain rfl | rfl : op = .runOneInstruction ∨ op = .tick := by simpa using hop
  · rw [hostOpWith_runOneInstruction, runOneInstructionWith_of_not_canStep cfg h]
  · exact tickWith_of_not_canStep cfg steps h

/-- At the defaults `tick` has an answer within the steps `hostOp` watches: a running CPU enters the loop at `budget + 1`, and each step lowers it. -/
theorem tickWith_config_answers (s : State) : ∃ a, tickWith config (s.budget + 2).toNat s = some a := by
  by_cases hc : s.canStep = true
  · obtain ⟨hr, hh⟩ : s.resetDone = true ∧ s.halted = false := by simpa [State.canStep] using hc
    obtain ⟨a, ha, -⟩ := stepWhileBudget_ends config_chargesEveryInstruction (s.budget + 2).toNat { s with budget := s.budget + 1 } hr
      (show s.budget + 1 + 1 ≤ _ by omega)
    exact ⟨a, (tickWith_running config _ hr hh).trans ha⟩
  · exact ⟨_, tickWith_of_not_canStep config _ (Bool.eq_false_iff.2 hc)⟩

/-- At the defaults every operation has an answer (70_reset_and_hazards.md R271; log entry 10). -/
theorem hostOpWith_config (op : HostOp) (s : State) : hostOpWith config (s.budget + 2).toNat op s = some (hostOp op s) := by
  obtain ⟨a, ha⟩ : ∃ a, hostOpWith config (s.budget + 2).toNat op s = some a := by
    cases op with
    | tick => exact tickWith_config_answers s
    | _ => exact ⟨_, rfl⟩
  rw [ha, hostOp_of_some ha]

/-- Settles O58. Each clause is an equation of the operation or a fact about the loop of `tick`, which a running CPU enters with one more cycle of budget. -/
theorem hostOperationsTakeTheParameters : Obligations.HostOperationsTakeTheParameters := by
  unfold Obligations.HostOperationsTakeTheParameters
  refine ⟨fun cfg s => ⟨fun steps => hostOpWith_reset cfg steps s, ?others, ?noStep, ?running⟩, hostOpWith_config⟩
  case others =>
    intro steps op hop
    obtain ⟨ne_reset, ne_runOne, ne_tick⟩ : op ≠ .reset ∧ op ≠ .runOneInstruction ∧ op ≠ .tick := by simpa using hop
    exact hostOpWith_of_ne cfg steps s ne_reset ne_runOne ne_tick
  case noStep =>
    intro steps op hop
    constructor
    · intro hr
      rw [hostOpWith_of_not_canStep cfg steps hop (by simp [State.canStep, hr]), stepWith_notReset cfg hr]
    · intro hr hh
      rw [hostOpWith_of_not_canStep cfg steps hop (by simp [State.canStep, hh]), stepWith_halted cfg hr hh]
  case running =>
    intro hr hh first
    have tick (steps : Nat) : hostOpWith cfg steps .tick s = stepWhileBudget cfg steps first := tickWith_running cfg steps hr hh
    simp only [tick]
    refine ⟨fun steps => ?runOne, fun neg steps => stepWhileBudget_spent cfg steps neg,
      fun nonneg => ⟨stepWhileBudget_zero cfg nonneg, fun steps => ⟨fun f hf => stepWhileBudget_fault cfg steps nonneg hf, ?goesOn⟩⟩,
      ?account, fun steps => stepWhileBudget_mono cfg steps first, ?ends⟩
    case runOne => rw [hostOpWith_runOneInstruction, runOneInstructionWith_running cfg hr hh]
    case goesOn =>
      intro t ht
      obtain ⟨hr', hh'⟩ := stepWith_next_running ht
      rw [stepWhileBudget_next cfg steps nonneg ht, hostOpWith_tick]
      exact stepWhileBudget_eq_tickWith cfg steps hr' hh'
    case account =>
      intro steps t ht
      obtain ⟨spent, account⟩ := stepWhileBudget_account cfg steps first t ht
      exact ⟨spent, account.trans (Int.add_assoc _ _ _).symm⟩
    case ends =>
      intro charges steps enough
      exact stepWhileBudget_ends charges steps first hr (show s.budget + 1 + 1 ≤ _ by omega)

end Sys2Proof.Machine
end

section
/-! SUPPORT. The words of the statements, which are in numbers, and the model's own: a bit of a byte, a word of two bytes, a stack address. -/

namespace Sys2Proof.Machine

theorem getLsbD_eq_decide (v : Byte) (k : Nat) : v.getLsbD k = decide (v.toNat / 2 ^ k % 2 = 1) :=
  Nat.testBit_eq_decide_div_mod_eq

theorem wordOf_eq_concat16 (hi lo : Byte) : wordOf hi lo = concat16 hi lo := by
  rw [wordOf, ← concat16_toNat, BitVec.ofNat_toNat, BitVec.setWidth_eq]

theorem stackAt_eq_stackAddr (sp : Byte) : stackAt sp = stackAddr sp := by
  rw [stackAt, ← stackAddr_toNat, BitVec.ofNat_toNat, BitVec.setWidth_eq]

end Sys2Proof.Machine
end

section
/-! The return from an interrupt (45_control_flow.md R219). -/

namespace Sys2Proof.Machine

/-- What the return from a trap does: three bytes pulled, the first into the flags, the other two into `PC`; nothing else (60_exceptions.md R242). -/
theorem State.returnFromTrap_eq (s : State) :
    s.returnFromTrap =
      { s with sp := s.sp + 3, flags := Flags.ofStatusByte (s.rawRead (stackAddr (s.sp + 1)))
               pc := concat16 (s.rawRead (stackAddr (s.sp + 3))) (s.rawRead (stackAddr (s.sp + 2))) } := by
  have sp_add_two : s.sp + 1 + 1 = s.sp + 2 := BitVec.add_assoc s.sp 1 1
  have sp_add_three : s.sp + 2 + 1 = s.sp + 3 := BitVec.add_assoc s.sp 2 1
  simp only [State.returnFromTrap, State.pull8_fst, State.pull8_snd, State.pull16_fst, State.pull16_snd, State.rawRead_setFlags,
    State.rawRead_setSp, State.setFlags_sp, State.setSp_sp, sp_add_two, sp_add_three]
  rfl

/-- Settles O37. The effect of the return, said in numbers: each flag is a bit of the pulled byte. -/
theorem rtiPullsFlagsThenPc : Obligations.RtiPullsFlagsThenPc := by
  unfold Obligations.RtiPullsFlagsThenPc
  intro s
  refine ⟨rfl, ?_⟩
  simp only [stackAt_eq_stackAddr, wordOf_eq_concat16, ← getLsbD_eq_decide]
  exact congrArg Host.Outcome.next s.returnFromTrap_eq

end Sys2Proof.Machine
end

section
/-! The fields of PPUCTRL and PPUMASK (10_state.md R32, R33). -/

namespace Sys2Proof.Machine

theorem Ppu.busWrite_ctrl (p : Ppu) (v : Byte) : p.busWrite 0x2000 v = { p with ctrl := v } := rfl

theorem Ppu.busWrite_mask (p : Ppu) (v : Byte) : p.busWrite 0x2001 v = { p with mask := v } := rfl

/-- The number in the two low bits of PPUCTRL is a sum over those bits (10_state.md R32). -/
theorem Ppu.nametableBase_eq (p : Ppu) :
    p.nametableBase = 0x2000 + (if p.nametableLo then 0x0400 else 0) + (if p.nametableHi then 0x0800 else 0) := by
  simp only [Ppu.nametableBase, Ppu.nametableLo, Ppu.nametableHi, getLsbD_eq_decide, decide_eq_true_eq]
  split_ifs <;> omega

/-- Settles O59. The write replaces the whole register, and every query reads bits of it. -/
theorem ppuFieldsFollowTheirLayout : Obligations.PpuFieldsFollowTheirLayout := by
  unfold Obligations.PpuFieldsFollowTheirLayout
  intro s a v
  simp only [State.busWrite_ppu, ← getLsbD_eq_decide]
  constructor
  case left =>
    intro h
    have at_ctrl : mirror a = 0x2000 := BitVec.eq_of_toNat_eq h
    rw [at_ctrl, Ppu.busWrite_ctrl]
    exact ⟨Ppu.nametableBase_eq _, rfl, rfl, rfl, rfl, rfl, rfl, rfl, rfl, rfl, rfl⟩
  case right =>
    intro h
    have at_mask : mirror a = 0x2001 := BitVec.eq_of_toNat_eq h
    rw [at_mask, Ppu.busWrite_mask]
    exact ⟨rfl, rfl, rfl, rfl, rfl, rfl, rfl, rfl⟩

end Sys2Proof.Machine
end

section
/-! The program counter after an instruction that is no control transfer (10_state.md R13). -/

namespace Sys2Proof.Machine

/-- The opcode bytes of JMP, JSR, RTS, the eight branches, BRK and RTI (45_control_flow.md). -/
def controlTransferOpcodes : List Byte :=
  [0x4C, 0x6C, 0x20, 0x60, 0x90, 0xB0, 0xF0, 0xD0, 0x30, 0x10, 0x50, 0x70, 0x00, 0x40]

/-- Of the meanings of the defined opcodes, only those of the control transfers write `PC`. -/
theorem exec_pc_of_not_controlTransfer {i : Instr} {s t : State} (hi : ∀ op, i ≠ .illegal op) (seq : i.opcode ∉ controlTransferOpcodes)
    (h : exec i s = .next t) : t.pc = s.pc := by
  cases i with
  | illegal op => exact absurd rfl (hi op)
  | jmpAbs addr | jmpInd addr | jsr addr | rts | brk | rti
  | bcc off | bcs off | beq off | bne off | bmi off | bpl off | bvc off | bvs off => exact absurd (of_decide_eq_true rfl) seq
  | _ => cases h; rfl

/-- A fetch whose instruction is no control transfer, if it completes, leaves `PC` where the fetch left it. -/
theorem runInstruction_pc_of_not_controlTransfer {s t : State} (hh : s.halted = false) (seq : (s.fetch config.implemented).opcode ∉ controlTransferOpcodes)
    (h : runInstruction config s = .next t) : t.pc = (s.advance (s.fetch config.implemented)).pc := by
  obtain ⟨_, -, faults⟩ | ⟨i, u, rfl, hi, hu, -, charges⟩ := runInstruction_cases config hh
  · rw [faults] at h; cases h
  · rw [charges] at h
    cases h
    rw [execWith_config] at hu
    rw [State.charge_pc]
    exact exec_pc_of_not_controlTransfer hi seq hu

/-- Settles O50. The step is a fetch, the fetch adds the length modulo 65536, and the meaning and the charge leave `PC` alone. -/
theorem onlyControlTransfersMovePc : Obligations.OnlyControlTransfersMovePc := by
  unfold Obligations.OnlyControlTransfersMovePc
  rintro s t i rest ⟨hr, hh, hn⟩ hdecode hstep seq
  have hfetch : s.fetch config.implemented = i := fetch_of_decode hdecode
  rw [step, stepWith_fetch config hr hh hn] at hstep
  subst hfetch
  rw [runInstruction_pc_of_not_controlTransfer hh seq hstep, State.advance_pc, BitVec.toNat_add, BitVec.toNat_ofNat, Nat.add_mod_mod, Instr.length]

end Sys2Proof.Machine
end

section
/-! The canonical address of a bus access, and which addresses share one (20_memory.md R42 to R44). -/

namespace Sys2Proof.Machine

/-- `Mirror` is "pure and idempotent" (20_memory.md R43). -/
@[simp] theorem mirror_mirror (a : Addr) : mirror (mirror a) = mirror a := mirror_of_canonical (mirror_canonical a)

/-- Settles O8. The table is the value of `mirror` in numbers; idempotence is that its values are canonical. -/
theorem mirrorFollowsTheTable : Obligations.MirrorFollowsTheTable := by
  unfold Obligations.MirrorFollowsTheTable
  intro a
  refine ⟨fun ram => ?_, fun ⟨low, high⟩ => ?_, fun above => mirror_of_canonical (.inr (.inr above)), mirror_mirror a⟩
  · rw [mirror_toNat, if_pos ram]
  · rw [mirror_toNat, if_neg (by omega), if_pos high]

/-- The addresses that the table of mirrors identifies (20_memory.md R42, R44). -/
def Aliased (a b : Addr) : Prop :=
  a = b ∨ (a.toNat ≤ 0x1FFF ∧ b.toNat ≤ 0x1FFF ∧ a.toNat % 2048 = b.toNat % 2048) ∨
    (0x2000 ≤ a.toNat ∧ a.toNat ≤ 0x3FFF ∧ 0x2000 ≤ b.toNat ∧ b.toNat ≤ 0x3FFF ∧ a.toNat % 8 = b.toNat % 8)

/-- The three ranges of the table have disjoint images, so two addresses with one mirror lie in one range. -/
theorem aliased_iff_mirror_eq (a b : Addr) : Aliased a b ↔ mirror b = mirror a := by
  rw [Aliased, ← BitVec.toNat_inj, ← BitVec.toNat_inj, mirror_toNat, mirror_toNat]
  split_ifs <;> omega

/-- A byte written through the bus is seen at every address with the same mirror (20_memory.md R44, R47). -/
theorem State.busRead_busWrite (s : State) (a b : Addr) (v : Byte) :
    (s.busWrite a v).busRead b = if mirror b = mirror a then v else s.busRead b := by
  rw [State.busRead_eq_rawRead, State.rawRead_busWrite, State.busRead_eq_rawRead]

/-- A write to RAM has no PPU side effect (20_memory.md R47). -/
theorem State.busWrite_of_ram (s : State) {a : Addr} (ram : a.toNat ≤ 0x1FFF) (v : Byte) :
    s.busWrite a v = { s with mem := (s.busWrite a v).mem } := by
  have below_window : (mirror a).toNat < 0x2000 := by rw [mirror_toNat, if_pos ram]; omega
  exact congrArg (fun p => { s with mem := (s.busWrite a v).mem, ppu := p }) (s.ppu.busWrite_of_ne v (.inl below_window))

/-- Settles O9. Aliases are the addresses with one mirror, and a write changes one byte, at a canonical index. -/
theorem aliasedAddressesHoldOneByte : Obligations.AliasedAddressesHoldOneByte := by
  unfold Obligations.AliasedAddressesHoldOneByte
  intro s a b v
  refine ⟨fun aliased => ?_, fun distinct => ?_, fun not_canonical => ?_, fun ram => s.busWrite_of_ram ram v⟩
  · rw [State.busRead_busWrite, if_pos ((aliased_iff_mirror_eq a b).1 aliased)]
  · rw [State.busRead_busWrite, if_neg (mt (aliased_iff_mirror_eq a b).2 distinct)]
  · have elsewhere : b ≠ mirror a := by
      rintro rfl
      exact not_canonical (mirror_mirror a)
    rw [State.rawRead_busWrite, if_neg elsewhere]

end Sys2Proof.Machine
end

section
/-! The step of a fetched instruction (30_encoding.md R85, 70_reset_and_hazards.md R273): which instruction it is, what it answers and what it is charged. -/

namespace Sys2Proof

/-- "The opcode alone selects operation and format" (30_encoding.md R84): decoding keeps the opcode byte, a legal or an illegal one. -/
@[simp] theorem decode3_opcode (op b1 b2 : Byte) : (decode3 op b1 b2).opcode = op := by
  unfold decode3
  split
  case h_152 => rfl
  all_goals exact BitVec.eq_of_toNat_eq (Eq.symm ‹_›)

end Sys2Proof

namespace Sys2Proof.Machine

/-- An opcode byte outside `IMPLEMENTED` is fetched as illegal (30_encoding.md R89). -/
theorem fetch_of_not_implemented {implemented : Byte → Bool} {s : State} (h : implemented (s.busRead s.pc) = false) :
    s.fetch implemented = .illegal (s.busRead s.pc) := by
  rw [State.fetch, decodeWith, h]; rfl

/-- `IMPLEMENTED` has no say in how the bytes of an implemented opcode are decoded. -/
theorem fetch_of_implemented {implemented : Byte → Bool} {s : State} (h : implemented (s.busRead s.pc) = true) :
    s.fetch implemented = s.fetch config.implemented := by
  rw [State.fetch, decodeWith, h]; rfl

theorem fetch_opcode (implemented : Byte → Bool) (s : State) : (s.fetch implemented).opcode = s.busRead s.pc := by
  unfold State.fetch decodeWith
  split
  · exact decode3_opcode _ _ _
  · rfl

/-- A fetched illegal opcode is the fault with the byte, its address and the cycles before the step, which stops the CPU and changes nothing else (60_exceptions.md R231). -/
theorem runInstruction_of_illegal (cfg : Config) {s : State} (hh : s.halted = false) {op : Byte} (hi : s.fetch cfg.implemented = .illegal op) :
    runInstruction cfg s =
      .fault (.illegalOpcode (some ⟨op, s.pc, s.cycles⟩) { s with halted := true, faultInfo := some ⟨op, s.pc, s.cycles⟩ }) := by
  obtain ⟨op', hop, faults⟩ | ⟨i, _, hfetch, legal, -⟩ := runInstruction_cases cfg hh
  · cases hop.symm.trans hi
    exact faults
  · exact absurd (hfetch.symm.trans hi) (legal op)

/-- Any other fetched instruction completes with its meaning past its own bytes, and is charged (70_reset_and_hazards.md R273). -/
theorem runInstruction_of_legal (cfg : Config) {s : State} (hh : s.halted = false) {i : Instr} (hfetch : s.fetch cfg.implemented = i)
    (hi : ∀ op, i ≠ .illegal op) :
    ∃ t, execWith cfg i (s.advance i) = .next t ∧ SameControl s t ∧
      runInstruction cfg s = .next (t.charge (cycleCost cfg.cycleTable i (s.advance i))) := by
  obtain ⟨op, hop, -⟩ | ⟨_, t, rfl, -, ht, same, charges⟩ := runInstruction_cases cfg hh
  · exact absurd (hfetch.symm.trans hop) (hi op)
  · subst hfetch
    exact ⟨t, ht, same, charges⟩

/-- The charge of a meaning's answer, in the counters of the state before the step. -/
theorem SameControl.charge_eq {s t : State} (h : SameControl s t) (n : Nat) :
    t.charge n = { t with cycles := s.cycles + n, budget := s.budget - n } := by
  rw [State.charge, h.cycles, h.budget]

/-- Settles O5. The step is a fetch, the bytes at `PC` are the instruction it reads, and what it makes of a legal and of an illegal one is known. -/
theorem stepRunsTheDecodedInstruction : Obligations.StepRunsTheDecodedInstruction := by
  unfold Obligations.StepRunsTheDecodedInstruction
  rintro s i rest t ⟨hr, hh, hn⟩ hdecode fetched n hexec
  have hfetch : s.fetch config.implemented = i := fetch_of_decode hdecode
  rw [step, stepWith_fetch config hr hh hn]
  constructor
  · intro legal
    obtain ⟨u, hu, same, completes⟩ := runInstruction_of_legal config hh hfetch legal
    rw [execWith_config] at hu
    cases hu.symm.trans hexec
    exact completes.trans (congrArg Host.Outcome.next (same.charge_eq n))
  · rintro op rfl
    exact runInstruction_of_illegal config hh hfetch

end Sys2Proof.Machine
end

section
/-! The frame of a trap in the words of the statements (60_exceptions.md R241). -/

namespace Sys2Proof.Machine

theorem highByte_eq_ofNat (v : Addr) : highByte v = BitVec.ofNat 8 (v.toNat / 256) := by
  rw [← highByte_toNat, BitVec.ofNat_toNat, BitVec.setWidth_eq]

theorem lowByte_eq_ofNat (v : Addr) : lowByte v = BitVec.ofNat 8 (v.toNat % 256) := by
  rw [← lowByte_toNat, BitVec.ofNat_toNat, BitVec.setWidth_eq]

/-- The status byte as a sum of the weights of its bits (10_state.md R22). -/
theorem Flags.statusByte_eq_ofNat (f : Flags) (brk : Bool) :
    f.statusByte brk = BitVec.ofNat 8
      ((if f.n then 128 else 0) + (if f.v then 64 else 0) + 32 + (if brk then 16 else 0) + (if f.d then 8 else 0) + (if f.i then 4 else 0) +
        (if f.z then 2 else 0) + (if f.c then 1 else 0)) := by
  obtain ⟨n, v, b, d, i, z, c⟩ := f
  revert n v d i z c brk
  decide +revert

/-- Taking a trap leaves the frame. The three stack addresses differ, so the order in which the bytes are pushed does not show. -/
theorem State.enterTrap_trapFrame (s : State) (ret : Addr) (brk : Bool) (vector : Addr) :
    TrapFrame s (s.enterTrap ret brk vector) ret (s.flags.statusByte brk) vector := by
  refine ⟨?_, fun b => ?_⟩
  · rw [wordOf_eq_concat16]
    exact s.enterTrap_eq ret brk vector
  · have one_below : stackAddr (s.sp - 1) ≠ stackAddr s.sp := by rw [Ne, stackAddr_inj]; bv_omega
    have two_below : stackAddr (s.sp - 2) ≠ stackAddr s.sp := by rw [Ne, stackAddr_inj]; bv_omega
    have apart : stackAddr (s.sp - 2) ≠ stackAddr (s.sp - 1) := by rw [Ne, stackAddr_inj]; bv_omega
    simp only [State.rawRead_enterTrap, stackAt_eq_stackAddr, highByte_eq_ofNat, lowByte_eq_ofNat]
    grind

/-- The frame leaves the counters to the charge. -/
theorem TrapFrame.charge {s t : State} {ret vector : Addr} {status : Byte} (h : TrapFrame s t ret status vector) (n : Nat) :
    TrapFrame (s.charge n) (t.charge n) ret status vector :=
  ⟨congrArg (State.charge n) h.1, h.2⟩

/-- BRK after its fetch is the trap at the address of its byte, with B set (45_control_flow.md R218); where the fetch left `PC` does not show. -/
theorem State.breakWith_advance_trapFrame (s : State) (offset : Addr) :
    TrapFrame (s.setFlags { s.flags with b := true }) ((s.advance .brk).breakWith offset) (s.pc + offset) (s.flags.statusByte true) brkVector := by
  have own_address : (s.advance .brk).pc - 1 = s.pc := BitVec.add_sub_cancel s.pc 1
  rw [State.breakWith, own_address]
  exact State.enterTrap_trapFrame ((s.advance .brk).setFlags { s.flags with b := true }) (s.pc + offset) true brkVector

end Sys2Proof.Machine
end

section
/-! The parameters of a configuration in a step (00_scope.md R4). -/

namespace Sys2Proof.Machine

/-- A step that fetches nothing reads no parameter. -/
theorem stepWith_of_not_fetches (cfg : Config) {s : State} (h : ¬ Fetches s) : stepWith cfg s = step s := by
  obtain ⟨hr, e⟩ | ⟨hr, hh, e⟩ | ⟨hr, hh, hn, e⟩ | ⟨hr, hh, hn, -⟩ := stepWith_cases cfg s
  · exact e.trans (stepWith_notReset config hr).symm
  · exact e.trans (stepWith_halted config hr hh).symm
  · exact e.trans (stepWith_nmi config hr hh hn).symm
  · exact absurd ⟨hr, hh, hn⟩ h

/-- Of the implemented opcode bytes `0x00` is BRK, and no other (30_encoding.md R86). -/
theorem fetch_eq_brk_iff {implemented : Byte → Bool} {s : State} (h : implemented (s.busRead s.pc) = true) :
    s.fetch implemented = .brk ↔ s.busRead s.pc = 0x00 := by
  refine ⟨fun hfetch => ?_, fun hop => ?_⟩
  · rw [← fetch_opcode implemented s, hfetch]; rfl
  · rw [fetch_of_implemented h, State.fetch, hop]; rfl

/-- An implemented BRK is the trap that returns to `PC` plus `BRK_RETURN_OFFSET`, charged its entry of `CYCLE_TABLE` (45_control_flow.md R218). -/
theorem runInstruction_brk (cfg : Config) {s : State} (hh : s.halted = false) (hfetch : s.fetch cfg.implemented = .brk) :
    ∃ t, runInstruction cfg s = .next t ∧
      TrapFrame ((s.setFlags { s.flags with b := true }).charge (cfg.cycleTable 0x00)) t (s.pc + cfg.brkReturnOffset)
        (s.flags.statusByte true) brkVector := by
  obtain ⟨t, ht, -, completes⟩ := runInstruction_of_legal cfg hh hfetch nofun
  rw [execWith_brk] at ht
  cases ht
  exact ⟨_, completes, (s.breakWith_advance_trapFrame cfg.brkReturnOffset).charge (cfg.cycleTable 0x00)⟩

/-- An instruction other than BRK does what it does at the default configuration, wherever it is fetched at all, but for the entry of `CYCLE_TABLE` in its charge. -/
theorem runInstruction_of_ne_brk (cfg : Config) {s : State} (hh : s.halted = false)
    (hfetch : s.fetch cfg.implemented = s.fetch config.implemented) (hbrk : s.fetch config.implemented ≠ .brk) :
    (∀ f, runInstruction config s = .fault f → runInstruction cfg s = .fault f) ∧
    ∀ t, runInstruction config s = .next t → ∃ p : Nat, p ≤ 2 ∧ t.cycles = s.cycles + (config.cycleTable (s.busRead s.pc) + p) ∧
      t.budget = s.budget - (config.cycleTable (s.busRead s.pc) + p : Nat) ∧
      runInstruction cfg s = .next
        { t with
          cycles := s.cycles + (cfg.cycleTable (s.busRead s.pc) + p)
          budget := s.budget - (cfg.cycleTable (s.busRead s.pc) + p : Nat) } := by
  obtain ⟨op, hop, faults⟩ | ⟨i, t, hi, legal, ht, same, completes⟩ := runInstruction_cases config hh
  · rw [faults, runInstruction_of_illegal cfg hh (hfetch.trans hop)]
    exact ⟨fun _ h => h, fun _ h => by cases h⟩
  · obtain ⟨t', ht', -, completes'⟩ := runInstruction_of_legal cfg hh (hfetch.trans hi) legal
    rw [execWith_of_ne cfg (hi ▸ hbrk), ← execWith_config] at ht'
    cases ht.symm.trans ht'
    have opcode_eq : i.opcode = s.busRead s.pc := hi ▸ fetch_opcode config.implemented s
    rw [completes, completes', same.charge_eq, same.charge_eq, cycleCost, cycleCost, opcode_eq]
    refine ⟨fun _ h => (by cases h), fun _ h => ?_⟩
    cases h
    exact ⟨cyclePenalty i (s.advance i), cyclePenalty_le i _, rfl, rfl, rfl⟩

/-- Settles O54. Each of the three parameters that a step reads is read in one place: `IMPLEMENTED` by the fetch, `BRK_RETURN_OFFSET` by BRK, `CYCLE_TABLE` by the charge. -/
theorem parametersActAsDescribed : Obligations.ParametersActAsDescribed := by
  unfold Obligations.ParametersActAsDescribed
  refine ⟨fun cfg _ => stepWith_of_not_fetches cfg, ?_, fun _ => rfl, rfl, fun _ => rfl⟩
  rintro cfg s ⟨hr, hh, hn⟩ op bit status
  rw [step, stepWith_fetch cfg hr hh hn, stepWith_fetch config hr hh hn]
  refine ⟨fun himpl => runInstruction_of_illegal cfg hh (fetch_of_not_implemented himpl), fun himpl hop => ?_, fun himpl hop => ?_⟩
  · have status_eq : s.flags.statusByte true = BitVec.ofNat 8 status := s.flags.statusByte_eq_ofNat true
    rw [← status_eq]
    exact runInstruction_brk cfg hh ((fetch_eq_brk_iff himpl).2 hop)
  · exact runInstruction_of_ne_brk cfg hh (fetch_of_implemented himpl) (mt (fetch_eq_brk_iff rfl).1 hop)

end Sys2Proof.Machine
end

section
/-! The effective addresses in numbers (40_addressing_modes.md R104 to R111): where an index addition wraps, and when it crosses a page. -/

namespace Sys2Proof.Machine

theorem zext16_eq_ofNat (v : Byte) : zext16 v = BitVec.ofNat 16 v.toNat := (BitVec.ofNat_toNat 16 v).symm

/-- The zero-page modes index modulo 256 (40_addressing_modes.md R105, R106). -/
theorem zext16_add_eq_ofNat (z r : Byte) : zext16 (z + r) = BitVec.ofNat 16 ((z.toNat + r.toNat) % 256) := by
  rw [zext16_eq_ofNat, BitVec.toNat_add]

/-- An index addition to a 16-bit base is modulo 65536 (40_addressing_modes.md R108, R109, R111). -/
theorem add_zext16_toNat (b : Addr) (r : Byte) : (b + zext16 r).toNat = (b.toNat + r.toNat) % 65536 := by
  have zext : (zext16 r).toNat = r.toNat := BitVec.toNat_setWidth_of_le (by decide)
  rw [BitVec.toNat_add, zext]

theorem add_zext16_eq_ofNat (b : Addr) (r : Byte) : b + zext16 r = BitVec.ofNat 16 ((b.toNat + r.toNat) % 65536) := by
  rw [← add_zext16_toNat, BitVec.ofNat_toNat, BitVec.setWidth_eq]

theorem pagesDiffer_eq_decide (a b : Addr) : pagesDiffer a b = decide (a.toNat / 256 ≠ b.toNat / 256) := by
  rw [Bool.eq_iff_iff, pagesDiffer, bne_iff_ne, decide_eq_true_eq, Ne, ← BitVec.toNat_inj, highByte_toNat, highByte_toNat]

/-- An index addition crosses exactly when the sum, modulo 65536, has another high byte than the base. -/
theorem pagesDiffer_add_zext16 (b : Addr) (r : Byte) :
    pagesDiffer (b + zext16 r) b = decide ((b.toNat + r.toNat) % 65536 / 256 ≠ b.toNat / 256) := by
  rw [pagesDiffer_eq_decide, add_zext16_toNat]

/-- A pointer of the indirect modes, both bytes from the zero page (20_memory.md R49). -/
theorem State.readZeroPage16_eq_wordOf (s : State) (z : Byte) :
    s.readZeroPage16 z =
      wordOf (s.busRead (BitVec.ofNat 16 ((z.toNat + 1) % 256))) (s.busRead (BitVec.ofNat 16 z.toNat)) := by
  rw [wordOf_eq_concat16, State.readZeroPage16, zext16_add_eq_ofNat, zext16_eq_ofNat]
  rfl

theorem wordBytes_eq (w : Addr) : wordBytes w = [lowByte w, highByte w] := by
  rw [wordBytes, lowByte_eq_ofNat, highByte_eq_ofNat]

/-- Only LDX and STX use zero page,Y (40_addressing_modes.md R106). -/
theorem eq_ldxZpy_or_stxZpy_of_operand {i : Instr} {z : Byte} (h : i.operand = .mem (.zpy z)) : i = .ldxZpy z ∨ i = .stxZpy z := by
  cases i with
  | ldxZpy _ => cases h; exact .inl rfl
  | stxZpy _ => cases h; exact .inr rfl
  | _ => cases h

/-- Settles O12. A zero-page mode is a byte addition, an indexed absolute mode and `(zp),Y` an addition to a 16-bit base, which alone can cross;
the base of an indirect mode is a pointer in the zero page. -/
theorem effectiveAddresses : Obligations.EffectiveAddresses := by
  unfold Obligations.EffectiveAddresses
  intro s z a pointer indexed crosses
  have pointer_eq (p : Byte) : s.readZeroPage16 p = pointer p.toNat := s.readZeroPage16_eq_wordOf p
  have indexed_eq (b : Addr) (r : Byte) : b + zext16 r = indexed b r := add_zext16_eq_ofNat b r
  have crosses_eq (b : Addr) (r : Byte) : pagesDiffer (b + zext16 r) b = crosses b r := pagesDiffer_add_zext16 b r
  refine ⟨⟨zext16_eq_ofNat z, crossed_zp z s⟩, ⟨zext16_add_eq_ofNat z s.x, crossed_zpx z s⟩, ⟨zext16_add_eq_ofNat z s.y, crossed_zpy z s⟩,
    ⟨rfl, crossed_abs a s⟩, ⟨indexed_eq a s.x, crosses_eq a s.x⟩, ⟨indexed_eq a s.y, crosses_eq a s.y⟩, ⟨?indx, crossed_indx z s⟩, ?indy, ?bytes,
    fun _ => eq_ldxZpy_or_stxZpy_of_operand⟩
  case indx =>
    rw [← BitVec.toNat_add, ← pointer_eq]
    rfl
  case indy =>
    rw [← pointer_eq]
    exact ⟨indexed_eq (s.readZeroPage16 z) s.y, crosses_eq (s.readZeroPage16 z) s.y⟩
  case bytes =>
    rw [wordBytes_eq]
    exact ⟨rfl, rfl, rfl, rfl, rfl, rfl, rfl, rfl⟩

end Sys2Proof.Machine
end

section
/-! SUPPORT. The flag computations of the arithmetic in numbers (42_arithmetic_logic.md R140, R147): `SetZN`, the carry input, the sign rule of V, and the one's
complement from which SBC is made. -/

namespace Sys2Proof.Machine

theorem beq_zero_eq_decide (v : Byte) : (v == 0) = decide (v.toNat = 0) := by
  rw [Bool.eq_iff_iff, beq_iff_eq, decide_eq_true_eq, ← BitVec.toNat_inj]
  rfl

theorem Flags.setZN_eq_zn (f : Flags) (v : Byte) : f.setZN v = zn v f := by
  rw [Flags.setZN, zn, beq_zero_eq_decide, getLsbD7_eq]

theorem carryByte_toNat (s : State) : s.flags.carryByte.toNat = carry s := by
  rw [Flags.carryByte, carry]
  split <;> rfl

theorem carry_le_one (s : State) : carry s ≤ 1 := by
  rw [carry]
  split <;> omega

/-- The formula of V reads bit 7 only: the operands agree there and the result differs (42_arithmetic_logic.md R140). -/
theorem signRule_eq_decide (a m r : Byte) : (~~~(a ^^^ m) &&& (a ^^^ r)).getLsbD 7 = decide (a.msb = m.msb ∧ r.msb ≠ a.msb) := by
  simp only [BitVec.getLsbD_and, BitVec.getLsbD_not, BitVec.getLsbD_xor, BitVec.msb_eq_getLsbD_last]
  cases a.getLsbD 7 <;> cases m.getLsbD 7 <;> cases r.getLsbD 7 <;> rfl

theorem complement_toNat (m : Byte) : (m ^^^ 0xFF).toNat = 255 - m.toNat := by
  rw [show (0xFF : Byte) = BitVec.allOnes 8 from rfl, BitVec.xor_allOnes, BitVec.toNat_not]

theorem complement_msb (m : Byte) : (m ^^^ 0xFF).msb = !m.msb := by
  rw [BitVec.msb_xor]
  exact Bool.xor_true m.msb

/-- In two's complement `~m` is `-m - 1`. -/
theorem complement_toInt (m : Byte) : (m ^^^ 0xFF).toInt = -m.toInt - 1 := by
  rw [BitVec.toInt_eq_toNat_cond, BitVec.toInt_eq_toNat_cond, complement_toNat]
  have := m.isLt
  split_ifs <;> omega

/-- The sign rule on a sum with carry is signed overflow (42_arithmetic_logic.md section 6). -/
theorem signRule_iff_signed_overflow (a m : Byte) {c : Nat} (hc : c ≤ 1) :
    (a.msb = m.msb ∧ (BitVec.ofNat 8 ((a.toNat + m.toNat + c) % 256)).msb ≠ a.msb) ↔
      a.toInt + m.toInt + c < -128 ∨ 127 < a.toInt + m.toInt + c := by
  have := a.isLt
  have := m.isLt
  simp only [BitVec.msb_eq_decide, decide_eq_decide, Ne, BitVec.toInt_eq_toNat_cond, BitVec.toNat_ofNat]
  split_ifs <;> omega

end Sys2Proof.Machine
end

section
/-! ADC and SBC (42_arithmetic_logic.md R140 to R143): the sum and the difference in numbers, V as signed overflow, and that D is not read. -/

namespace Sys2Proof.Machine

/-- ADC in numbers (42_arithmetic_logic.md R140, R142). -/
theorem State.adc_eq (s : State) (m : Byte) :
    s.adc m =
      let sum := s.a.toNat + m.toNat + carry s
      let r : Byte := BitVec.ofNat 8 (sum % 256)
      { s with a := r, flags := zn r { s.flags with c := decide (255 < sum), v := decide (s.a.msb = m.msb ∧ r.msb ≠ s.a.msb) } } := by
  have result : BitVec.ofNat 8 (s.a.toNat + m.toNat + carry s) = BitVec.ofNat 8 ((s.a.toNat + m.toNat + carry s) % 256) :=
    BitVec.eq_of_toNat_eq (by simp only [BitVec.toNat_ofNat]; omega)
  simp only [State.adc, addWithCarry, carryByte_toNat, signRule_eq_decide, result]
  rw [State.setZN, Flags.setZN_eq_zn]
  rfl

/-- SBC in numbers (42_arithmetic_logic.md R143): the sum with the one's complement is the difference and 256, so the carry out says that there is no borrow. -/
theorem State.sbc_eq (s : State) (m : Byte) :
    s.sbc m =
      let diff : Int := s.a.toNat - m.toNat - (1 - carry s)
      let r : Byte := BitVec.ofInt 8 diff
      { s with a := r, flags := zn r { s.flags with c := decide (0 ≤ diff), v := decide (s.a.msb ≠ m.msb ∧ r.msb ≠ s.a.msb) } } := by
  have sum_eq : ((s.a.toNat + (m ^^^ 0xFF).toNat + carry s : Nat) : Int) = s.a.toNat - m.toNat - (1 - carry s) + 256 := by
    rw [complement_toNat]
    have := m.isLt
    omega
  have result : BitVec.ofNat 8 ((s.a.toNat + (m ^^^ 0xFF).toNat + carry s) % 256) = BitVec.ofInt 8 (s.a.toNat - m.toNat - (1 - carry s)) :=
    BitVec.eq_of_toNat_eq (by simp only [BitVec.toNat_ofNat, BitVec.toNat_ofInt]; omega)
  have no_borrow : 255 < s.a.toNat + (m ^^^ 0xFF).toNat + carry s ↔ (0 : Int) ≤ s.a.toNat - m.toNat - (1 - carry s) := by omega
  have signs_differ : s.a.msb = (m ^^^ 0xFF).msb ↔ s.a.msb ≠ m.msb := by
    rw [complement_msb]
    exact Bool.eq_not
  rw [State.sbc, State.adc_eq]
  simp only [result, no_borrow, signs_differ]

/-- SBC takes back the sum of ADC when its carry in is the complement of ADC's (90_conflicts.md C1). -/
theorem State.sbc_a_of_adc (s t : State) (m : Byte) (ha : t.a = (s.adc m).a) (hc : carry t = 1 - carry s) : (t.sbc m).a = s.a := by
  have sum : (s.adc m).a.toNat = (s.a.toNat + m.toNat + carry s) % 256 := by
    rw [State.adc_eq, BitVec.toNat_ofNat]
    omega
  have := carry_le_one s
  have := s.a.isLt
  rw [State.sbc_eq]
  apply BitVec.eq_of_toNat_eq
  simp only [BitVec.toNat_ofInt, ha, sum, hc]
  omega

/-- Settles O18. All eight forms are one sum, of A, the carry and the operand byte. -/
theorem adcAddsWithCarry : Obligations.AdcAddsWithCarry := by
  unfold Obligations.AdcAddsWithCarry
  intro s v zp addr result
  have adc_eq (m : Byte) : s.adc m = result m := s.adc_eq m
  simp only [← adc_eq, wordBytes_eq]
  exact ⟨⟨rfl, rfl⟩, ⟨rfl, rfl⟩, ⟨rfl, rfl⟩, ⟨rfl, rfl⟩, ⟨rfl, rfl⟩, ⟨rfl, rfl⟩, ⟨rfl, rfl⟩, ⟨rfl, rfl⟩⟩

/-- Settles O19. All eight forms are one difference; the difference undoes the sum of `adc`. -/
theorem sbcSubtractsWithBorrow : Obligations.SbcSubtractsWithBorrow := by
  unfold Obligations.SbcSubtractsWithBorrow
  refine ⟨fun s v zp addr => ?_, fun s m c => ?_⟩
  · intro result
    have sbc_eq (m : Byte) : s.sbc m = result m := s.sbc_eq m
    simp only [← sbc_eq, wordBytes_eq]
    exact ⟨⟨rfl, rfl⟩, ⟨rfl, rfl⟩, ⟨rfl, rfl⟩, ⟨rfl, rfl⟩, ⟨rfl, rfl⟩, ⟨rfl, rfl⟩, ⟨rfl, rfl⟩, ⟨rfl, rfl⟩⟩
  · have borrow : (if !c then 1 else 0) = 1 - (if c then 1 else 0) := by cases c <;> rfl
    exact ⟨_, _, rfl, rfl, State.sbc_a_of_adc (s.setFlags { s.flags with c := c }) _ m rfl borrow⟩

theorem State.adc_v_iff (s : State) (m : Byte) :
    (s.adc m).flags.v = true ↔ s.a.toInt + m.toInt + carry s < -128 ∨ 127 < s.a.toInt + m.toInt + carry s := by
  rw [State.adc_eq, ← signRule_iff_signed_overflow s.a m (carry_le_one s)]
  exact decide_eq_true_iff

/-- Settles O20. SBC is ADC of `~m`, which read as a signed number is `-m - 1`. -/
theorem overflowIsSignedOverflow : Obligations.OverflowIsSignedOverflow := by
  unfold Obligations.OverflowIsSignedOverflow
  intro s m
  refine ⟨s.adc m, s.sbc m, rfl, rfl, s.adc_v_iff m, ?_⟩
  rw [State.sbc, State.adc_v_iff, complement_toInt]
  omega

/-- D is not read, only carried along (42_arithmetic_logic.md R141). -/
theorem State.adc_decimal (s : State) (d : Bool) (m : Byte) :
    State.adc m { s with flags := { s.flags with d := d } } = { s.adc m with flags := { (s.adc m).flags with d := d } } := rfl

/-- Settles O21. Each form is `adc` of a byte that the flags do not enter: the operand, or its one's complement. -/
theorem decimalModeDoesNothing : Obligations.DecimalModeDoesNothing := by
  unfold Obligations.DecimalModeDoesNothing
  refine ⟨fun i s t d hop h => ?_, fun s => ⟨rfl, rfl⟩⟩
  cases i with
  | adcImm m | adcZp m | adcZpx m | adcAbs m | adcAbsx m | adcAbsy m | adcIndx m | adcIndy m
  | sbcImm m | sbcZp m | sbcZpx m | sbcAbs m | sbcAbsx m | sbcAbsy m | sbcIndx m | sbcIndy m =>
    cases h
    exact congrArg _ (s.adc_decimal d _)
  | illegal op =>
    -- `op` may be any byte here, a listed one too: only a well-formed term carries an illegal byte. The fault reads and writes no flag.
    cases h
    rfl
  | _ => exact absurd hop (of_decide_eq_false rfl)

end Sys2Proof.Machine
end

section
/-! The compares and BIT (42_arithmetic_logic.md R147 to R151): three flags in numbers, and no register or byte written. -/

namespace Sys2Proof.Machine

/-- `Compare` in numbers (42_arithmetic_logic.md R147). -/
theorem State.compareWith_eq (s : State) (r m : Byte) :
    s.compareWith r m =
      { s with flags := { s.flags with
          c := decide (m.toNat ≤ r.toNat), z := decide (r = m), n := decide (128 ≤ (r.toNat + 256 - m.toNat) % 256) } } := by
  have difference : (r - m).toNat = (r.toNat + 256 - m.toNat) % 256 := by
    have := m.isLt
    rw [BitVec.toNat_sub]
    omega
  rw [State.compareWith, Flags.compare, getLsbD7_eq, difference]
  rfl

/-- BIT in numbers (42_arithmetic_logic.md R151). -/
theorem State.bitTest_eq (s : State) (m : Byte) :
    s.bitTest m =
      { s with flags := { s.flags with
          z := decide ((s.a &&& m).toNat = 0), n := decide (m.toNat / 128 % 2 = 1), v := decide (m.toNat / 64 % 2 = 1) } } := by
  rw [State.bitTest, Flags.bitTest, beq_zero_eq_decide, getLsbD_eq_decide, getLsbD_eq_decide]
  rfl

/-- Settles O23. All 14 forms are one comparison, of the register and the operand byte. -/
theorem comparesSetTheFlags : Obligations.ComparesSetTheFlags := by
  unfold Obligations.ComparesSetTheFlags
  intro s v zp addr result cmpResult cpxResult cpyResult
  have compare_eq (r m : Byte) : s.compareWith r m = result r m := s.compareWith_eq r m
  simp only [cmpResult, cpxResult, cpyResult, ← compare_eq, wordBytes_eq]
  exact ⟨⟨rfl, rfl⟩, ⟨rfl, rfl⟩, ⟨rfl, rfl⟩, ⟨rfl, rfl⟩, ⟨rfl, rfl⟩, ⟨rfl, rfl⟩, ⟨rfl, rfl⟩, ⟨rfl, rfl⟩, ⟨rfl, rfl⟩, ⟨rfl, rfl⟩, ⟨rfl, rfl⟩,
    ⟨rfl, rfl⟩, ⟨rfl, rfl⟩, ⟨rfl, rfl⟩⟩

/-- Settles O24. Both forms test one operand byte. -/
theorem bitTestsTheOperand : Obligations.BitTestsTheOperand := by
  unfold Obligations.BitTestsTheOperand
  intro s zp addr result
  have bitTest_eq (m : Byte) : s.bitTest m = result m := s.bitTest_eq m
  simp only [← bitTest_eq, wordBytes_eq]
  exact ⟨⟨rfl, rfl⟩, ⟨rfl, rfl⟩⟩

end Sys2Proof.Machine
end

section
/-! SUPPORT. A read-modify-write instruction and its accumulator form, in the words of the statements (40_addressing_modes.md R100, R102; 20_memory.md R60): one
bus read, one bus write, the flags. -/

namespace Sys2Proof.Machine

/-- The write and the flags of a memory form, from the operation's value at the byte read. -/
theorem Stores.of_modifyOperand {i : Instr} {bytes : List Byte} {s : State} {op : Byte → Flags → Byte × Flags} {m : MemOperand} {r : Byte} {f : Flags}
    (encoded : encode i = bytes) (runs : exec i s = .next (s.modifyOperand op m)) (value : op (s.busRead (MemOperand.ea m s)) s.flags = (r, f)) :
    Stores i bytes s (MemOperand.ea m s) r f := by
  have modified : s.modifyOperand op m = (s.busWrite (MemOperand.ea m s) r).setFlags f := by
    simp only [State.modifyOperand, State.readOperand, State.writeOperand, value]
  rw [modified] at runs
  refine ⟨encoded, _, runs, rfl, fun b => ?_⟩
  rw [State.rawRead_setFlags, State.rawRead_busWrite]

/-- The accumulator form writes A instead, and no byte of memory. -/
theorem Does.of_modifyA {i : Instr} {bytes : List Byte} {s : State} {op : Byte → Flags → Byte × Flags} {r : Byte} {f : Flags}
    (encoded : encode i = bytes) (runs : exec i s = .next (s.modifyA op)) (value : op s.a s.flags = (r, f)) :
    Does i bytes s { s with a := r, flags := f } := by
  have modified : s.modifyA op = (s.setA r).setFlags f := by
    rw [State.modifyA, value]
  rw [modified] at runs
  exact ⟨encoded, runs⟩

end Sys2Proof.Machine
end

section
/-! The shifts and rotates in numbers (43_shifts_rotates.md R170 to R174), and that ROL rotates the nine bits of C and A. -/

namespace Sys2Proof.Machine

theorem getLsbD0_eq (m : Byte) : m.getLsbD 0 = decide (m.toNat % 2 = 1) := by
  rw [getLsbD_eq_decide, pow_zero, Nat.div_one]

theorem shiftLeft_one_toNat (m : Byte) : (m <<< 1).toNat = 2 * m.toNat % 256 := by
  rw [BitVec.toNat_shiftLeft, Nat.shiftLeft_eq, Nat.mul_comm]

theorem shiftRight_one_toNat (m : Byte) : (m >>> 1).toNat = m.toNat / 2 := by
  rw [BitVec.toNat_ushiftRight, Nat.shiftRight_eq_div_pow]

/-- The shifted byte has bit 0 clear, so the old carry that enters there is added (43_shifts_rotates.md R173). -/
theorem rotatedLeft_toNat (s : State) (m : Byte) : (m <<< 1 ||| s.flags.carryByte).toNat = (2 * m.toNat + carry s) % 256 := by
  have shifted : 2 * m.toNat % 256 = 2 ^ 1 * (m.toNat % 128) := by omega
  have := carry_le_one s
  rw [BitVec.toNat_or, shiftLeft_one_toNat, carryByte_toNat, shifted, ← Nat.two_pow_add_eq_or_of_lt (by omega)]
  omega

/-- The shifted byte is below 128, so the old carry that enters bit 7 is added as 128 (43_shifts_rotates.md R174). -/
theorem rotatedRight_toNat (s : State) (m : Byte) : (m >>> 1 ||| s.flags.carryByte <<< 7).toNat = m.toNat / 2 + 128 * carry s := by
  have := m.isLt
  have := carry_le_one s
  have entering : (s.flags.carryByte <<< 7).toNat = 2 ^ 7 * carry s := by
    rw [BitVec.toNat_shiftLeft, Nat.shiftLeft_eq, carryByte_toNat]
    omega
  rw [BitVec.toNat_or, shiftRight_one_toNat, entering, Nat.or_comm, ← Nat.two_pow_add_eq_or_of_lt (by omega)]
  omega

/-- A shift's or rotate's answer from its result and outgoing bit in numbers. -/
theorem Flags.shifted_eq (f : Flags) {r : Byte} {n : Nat} (result : r.toNat = n) {out outgoing : Bool} (carried : out = outgoing) :
    f.shifted r out = (BitVec.ofNat 8 n, zn (BitVec.ofNat 8 n) { f with c := outgoing }) := by
  have r_eq : BitVec.ofNat 8 n = r := by rw [← result, BitVec.ofNat_toNat, BitVec.setWidth_eq]
  rw [Flags.shifted, Flags.setZN_eq_zn, r_eq, carried]

/-- Settles O27. The five forms of a shift are one operation, on A or on the byte at the effective address, and its value is known in numbers. -/
theorem shiftsMoveTheOutgoingBitToC : Obligations.ShiftsMoveTheOutgoingBitToC := by
  unfold Obligations.ShiftsMoveTheOutgoingBitToC
  intro s zp addr asl lsr aslFlags lsrFlags
  have asl_eq (m : Byte) : shiftLeft m s.flags = (asl m, aslFlags m) := s.flags.shifted_eq (shiftLeft_one_toNat m) (getLsbD7_eq m)
  have lsr_eq (m : Byte) : shiftRight m s.flags = (lsr m, lsrFlags m) := s.flags.shifted_eq (shiftRight_one_toNat m) (getLsbD0_eq m)
  rw [wordBytes_eq]
  exact ⟨.of_modifyA rfl rfl (asl_eq _), .of_modifyOperand rfl rfl (asl_eq _), .of_modifyOperand rfl rfl (asl_eq _),
    .of_modifyOperand rfl rfl (asl_eq _), .of_modifyOperand rfl rfl (asl_eq _),
    .of_modifyA rfl rfl (lsr_eq _), .of_modifyOperand rfl rfl (lsr_eq _), .of_modifyOperand rfl rfl (lsr_eq _),
    .of_modifyOperand rfl rfl (lsr_eq _), .of_modifyOperand rfl rfl (lsr_eq _)⟩

/-- Whole turns come back to where they began. -/
theorem bitVec_rotateLeft_of_mod_eq_zero {w : Nat} (x : BitVec w) {n : Nat} (turns : n % w = 0) : x.rotateLeft n = x := by
  rw [← BitVec.rotateLeft_mod_eq_rotateLeft, turns, BitVec.rotateLeft_def, Nat.zero_mod, Nat.sub_zero, BitVec.shiftLeft_zero,
    BitVec.ushiftRight_eq_zero (Nat.le_refl w), BitVec.or_zero]

/-- Two rotations to the left are one by the sum of their distances. -/
theorem bitVec_rotateLeft_rotateLeft {w : Nat} (x : BitVec w) (j k : Nat) : (x.rotateLeft j).rotateLeft k = x.rotateLeft (j + k) := by
  apply BitVec.eq_of_getMsbD_eq
  intro i hi
  have in_width : (k + i) % w < w := Nat.mod_lt _ (by omega)
  simp only [BitVec.getMsbD_rotateLeft, in_width, Nat.add_mod_mod, Nat.add_assoc, decide_true, Bool.true_and]

/-- The nine bits `{C, A}` (43_shifts_rotates.md R173). -/
def State.carryAndA (s : State) : BitVec 9 := BitVec.cons s.flags.c s.a

theorem State.a_and_c_of_carryAndA {s t : State} (same : t.carryAndA = s.carryAndA) : t.a = s.a ∧ t.flags.c = s.flags.c := by
  constructor
  · simpa only [State.carryAndA, BitVec.setWidth_cons] using congrArg (BitVec.setWidth 8) same
  · simpa only [State.carryAndA, BitVec.msb_cons] using congrArg BitVec.msb same

theorem Flags.carryByte_getLsbD (f : Flags) (k : Nat) : f.carryByte.getLsbD k = (decide (k = 0) && f.c) := by
  rw [Flags.carryByte]
  cases f.c
  case false => simp
  case true => simp [BitVec.getLsbD_one]

/-- ROL of A is "a 9-bit rotation of {C, M}": bit 0 is the old C, bit 8 the old bit 7 of A, and a bit between them the one below it (43_shifts_rotates.md R173). -/
theorem State.carryAndA_rotateLeft (s : State) : (s.modifyA rotateLeft).carryAndA = s.carryAndA.rotateLeft 1 := by
  change BitVec.cons (s.a.getLsbD 7) (s.a <<< 1 ||| s.flags.carryByte) = (BitVec.cons s.flags.c s.a).rotateLeft 1
  apply BitVec.eq_of_getLsbD_eq
  intro k hk
  simp only [BitVec.getLsbD_rotateLeft, BitVec.getLsbD_cons, BitVec.getLsbD_or, BitVec.getLsbD_shiftLeft, Flags.carryByte_getLsbD]
  obtain rfl | rfl | ⟨low, high⟩ : k = 0 ∨ k = 8 ∨ 0 < k ∧ k < 8 := by omega
  · simp
  · simp
  · have below : k - 1 ≠ 8 := by omega
    simp [low.ne', high, high.ne, below, hk]

/-- ROL of A over and over completes, and rotates the nine bits as often. -/
theorem execTimes_rolAcc (n : Nat) (s : State) : ∃ t, execTimes .rolAcc n s = .next t ∧ t.carryAndA = s.carryAndA.rotateLeft n := by
  induction n generalizing s with
  | zero => exact ⟨s, rfl, (bitVec_rotateLeft_of_mod_eq_zero _ rfl).symm⟩
  | succ n ih =>
    obtain ⟨t, completes, rotated⟩ := ih (s.modifyA rotateLeft)
    refine ⟨t, completes, ?_⟩
    rw [rotated, State.carryAndA_rotateLeft, bitVec_rotateLeft_rotateLeft, Nat.add_comm]

/-- Settles O28. As for the shifts, with the old carry in the result; nine steps of a 9-bit rotation come back to where they began. -/
theorem rotatesGoThroughC : Obligations.RotatesGoThroughC := by
  unfold Obligations.RotatesGoThroughC
  constructor
  case left =>
    intro s zp addr rol ror rolFlags rorFlags
    have rol_eq (m : Byte) : rotateLeft m s.flags = (rol m, rolFlags m) := s.flags.shifted_eq (rotatedLeft_toNat s m) (getLsbD7_eq m)
    have ror_eq (m : Byte) : rotateRight m s.flags = (ror m, rorFlags m) := s.flags.shifted_eq (rotatedRight_toNat s m) (getLsbD0_eq m)
    rw [wordBytes_eq]
    exact ⟨.of_modifyA rfl rfl (rol_eq _), .of_modifyOperand rfl rfl (rol_eq _), .of_modifyOperand rfl rfl (rol_eq _),
      .of_modifyOperand rfl rfl (rol_eq _), .of_modifyOperand rfl rfl (rol_eq _),
      .of_modifyA rfl rfl (ror_eq _), .of_modifyOperand rfl rfl (ror_eq _), .of_modifyOperand rfl rfl (ror_eq _),
      .of_modifyOperand rfl rfl (ror_eq _), .of_modifyOperand rfl rfl (ror_eq _)⟩
  case right =>
    intro s
    obtain ⟨t, completes, rotated⟩ := execTimes_rolAcc 9 s
    have restored : t.carryAndA = s.carryAndA := rotated.trans (bitVec_rotateLeft_of_mod_eq_zero _ rfl)
    exact ⟨t, completes, State.a_and_c_of_carryAndA restored⟩

end Sys2Proof.Machine
end

section
/-! The jumps (45_control_flow.md R200): `PC` from the operand, or from a pointer read that stays in its page. -/

namespace Sys2Proof.Machine

/-- The second byte of the pointer of JMP (indirect) comes from the next address of the same page (20_memory.md R50). -/
theorem State.readPageWrap16_eq_wordOf (s : State) (a : Addr) :
    s.readPageWrap16 a =
      wordOf (s.busRead (BitVec.ofNat 16 (256 * (a.toNat / 256) + (a.toNat % 256 + 1) % 256))) (s.busRead a) := by
  have low_succ_toNat : (lowByte a + 1).toNat = (a.toNat % 256 + 1) % 256 := by
    rw [BitVec.toNat_add, lowByte_toNat]
    rfl
  rw [wordOf_eq_concat16, State.readPageWrap16, ← highByte_toNat, ← low_succ_toNat, ← concat16_toNat, BitVec.ofNat_toNat, BitVec.setWidth_eq]

/-- Settles O33. The two forms differ in the new `PC` only: the operand, or the word of the page-wrapping read at it. -/
theorem jumpsLoadPc : Obligations.JumpsLoadPc := by
  unfold Obligations.JumpsLoadPc
  intro s addr ptr
  rw [wordBytes_eq, wordBytes_eq, ← State.readPageWrap16_eq_wordOf]
  exact ⟨⟨rfl, rfl⟩, ⟨rfl, rfl⟩⟩

end Sys2Proof.Machine
end

section
/-! JSR and RTS (45_control_flow.md R201, R202): what each leaves, and that RTS pulls the word JSR pushed. -/

namespace Sys2Proof.Machine

/-- JSR writes memory, `S` and `PC`; the two pushes have no PPU side effect (45_control_flow.md R201). -/
theorem State.jumpSubroutine_eq (s : State) (target : Addr) :
    s.jumpSubroutine target = { s with sp := s.sp - 2, pc := target, mem := (s.jumpSubroutine target).mem } := by
  have two_lower : s.sp - 1 - 1 = s.sp - 2 := BitVec.sub_sub s.sp 1 1
  rw [← two_lower]
  exact congrArg (State.setPc target) (s.push16_eq (s.pc - 1))

/-- Memory after JSR: the two bytes of `PC - 1`, every other byte as before. The two stack addresses differ, so the order of the pushes does not show. -/
theorem State.rawRead_jumpSubroutine (s : State) (target b : Addr) :
    (s.jumpSubroutine target).rawRead b =
      if b = stackAddr s.sp then highByte (s.pc - 1) else if b = stackAddr (s.sp - 1) then lowByte (s.pc - 1) else s.rawRead b := by
  have one_below : stackAddr s.sp ≠ stackAddr (s.sp - 1) := by rw [Ne, stackAddr_inj]; bv_omega
  rw [State.jumpSubroutine, State.rawRead_setPc, State.rawRead_push16]
  apply ite_ite_comm
  rintro rfl same
  exact one_below same.symm

/-- RTS writes `S` and `PC` only (45_control_flow.md R202). -/
theorem State.returnFromSubroutine_eq (s : State) :
    s.returnFromSubroutine =
      { s with sp := s.sp + 2, pc := concat16 (s.rawRead (stackAddr (s.sp + 2))) (s.rawRead (stackAddr (s.sp + 1))) + 1 } := by
  have two_higher : s.sp + 1 + 1 = s.sp + 2 := BitVec.add_assoc s.sp 1 1
  rw [State.returnFromSubroutine, State.pull16_fst, State.pull16_snd, two_higher]
  rfl

/-- `Pull16` answers the word that `Push16` left (10_state.md R28, R29). -/
theorem State.pull16_push16_fst (s : State) (v : Addr) : (s.push16 v).pull16.1 = v := by
  have low_at : s.sp - 2 + 1 = s.sp - 1 := by bv_omega
  have high_at : s.sp - 1 + 1 = s.sp := BitVec.sub_add_cancel s.sp 1
  have high_above_low : s.sp ≠ s.sp - 1 := by bv_omega
  simp only [State.pull16_fst, State.push16_sp, State.rawRead_push16, low_at, high_at, stackAddr_inj, high_above_low, if_true, if_false,
    concat16_high_low]

/-- RTS at any `PC`, run where JSR left memory and `S`, undoes JSR but for the pushed bytes. -/
theorem State.returnFromSubroutine_jumpSubroutine (s : State) (target p : Addr) :
    ((s.jumpSubroutine target).setPc p).returnFromSubroutine = { s with mem := (s.jumpSubroutine target).mem } := by
  have restored_sp : s.sp - 2 + 1 + 1 = s.sp := by bv_omega
  have restored_pc : (s.push16 (s.pc - 1)).pull16.1 + 1 = s.pc := by
    rw [State.pull16_push16_fst]
    exact BitVec.sub_add_cancel s.pc 1
  calc ((s.jumpSubroutine target).setPc p).returnFromSubroutine
      = ((s.jumpSubroutine target).setSp ((s.jumpSubroutine target).sp + 1 + 1)).setPc ((s.push16 (s.pc - 1)).pull16.1 + 1) := rfl
    _ = { s with mem := (s.jumpSubroutine target).mem } := by
      rw [restored_pc, State.jumpSubroutine_eq]
      simp only [State.setSp, State.setPc, restored_sp]

/-- Settles O34. What JSR leaves, what RTS leaves, and the round trip, with the model's words in place of the numbers. -/
theorem jsrPushesAndRtsPulls : Obligations.JsrPushesAndRtsPulls := by
  unfold Obligations.JsrPushesAndRtsPulls
  simp only [wordBytes_eq, stackAt_eq_stackAddr, wordOf_eq_concat16, ← highByte_eq_ofNat, ← lowByte_eq_ofNat]
  refine ⟨fun s addr => ?jsr, fun s => ?rts, fun s addr p => ?roundTrip⟩
  case jsr => exact ⟨rfl, _, rfl, s.jumpSubroutine_eq addr, s.rawRead_jumpSubroutine addr⟩
  case rts => exact ⟨rfl, congrArg Host.Outcome.next s.returnFromSubroutine_eq⟩
  case roundTrip => exact ⟨_, rfl, congrArg Host.Outcome.next (s.returnFromSubroutine_jumpSubroutine addr p)⟩

end Sys2Proof.Machine
end

section
/-! The exceptions of a step (60_exceptions.md R233, R234, R239): a fetch faults on the bytes that 30_encoding.md section 4 lists, and on no other. -/

namespace Sys2Proof.Machine

/-- Which bytes decode to `illegal` (30_encoding.md R84, R88): the opcode byte alone decides, so the 256 rows of the decode function are checked at any operand bytes. -/
theorem decode3_eq_illegal_iff (b1 b2 : Byte) : ∀ op : Byte, decode3 op b1 b2 = .illegal op ↔ op ∈ listedIllegal :=
  of_decide_eq_true rfl

/-- With every opcode implemented, the fetch reads an illegal opcode exactly at a listed byte. -/
theorem exists_fetch_eq_illegal_iff (s : State) : (∃ op, s.fetch config.implemented = .illegal op) ↔ s.busRead s.pc ∈ listedIllegal := by
  rw [← decode3_eq_illegal_iff (s.busRead (s.pc + 1)) (s.busRead (s.pc + 2))]
  constructor
  · rintro ⟨op, hfetch⟩
    have own_byte : op = s.busRead s.pc := by
      rw [← fetch_opcode config.implemented s, hfetch]; rfl
    rw [own_byte] at hfetch
    exact hfetch
  · exact fun hdecode => ⟨_, hdecode⟩

/-- The illegal opcode is the only exception of a fetch (60_exceptions.md R233). -/
theorem exists_runInstruction_eq_fault_iff (cfg : Config) {s : State} (hh : s.halted = false) :
    (∃ f, runInstruction cfg s = .fault f) ↔ ∃ op, s.fetch cfg.implemented = .illegal op := by
  constructor
  · rintro ⟨f, faults⟩
    obtain ⟨op, hop, -⟩ | ⟨_, _, -, -, -, -, completes⟩ := runInstruction_cases cfg hh
    · exact ⟨op, hop⟩
    · cases completes.symm.trans faults
  · rintro ⟨op, hop⟩
    exact ⟨_, runInstruction_of_illegal cfg hh hop⟩

/-- Settles O7. Of the cases of a step after the first reset, a halted CPU faults, an NMI entry completes, and a fetch faults on an illegal byte. -/
theorem onlyIllegalOpcodesStopAStep : Obligations.OnlyIllegalOpcodesStopAStep := by
  unfold Obligations.OnlyIllegalOpcodesStopAStep
  intro s hr
  refine ⟨stepWith_ne_refused config hr, ?_⟩
  obtain ⟨not_reset, -⟩ | ⟨-, hh, faults⟩ | ⟨-, hh, hn, enters⟩ | ⟨-, hh, hn, fetches⟩ := stepWith_cases config s
  · exact absurd hr (by simp [not_reset])
  · exact ⟨fun _ => .inl hh, fun _ => ⟨_, faults⟩⟩
  · simp [step, enters, hh, hn]
  · rw [step, fetches, exists_runInstruction_eq_fault_iff config hh, exists_fetch_eq_illegal_iff]
    simp [hh, hn]

end Sys2Proof.Machine
end

section
/-! The host's events (20_memory.md R73, 60_exceptions.md R237, 70_reset_and_hazards.md R276). -/

namespace Sys2Proof.Machine

/-- Masking PPUADDR is the remainder modulo the size of its space (10_state.md R34). -/
theorem Ppu.and_addrMask_eq_ofNat (a : Addr) : a &&& Ppu.addrMask = BitVec.ofNat 16 (a.toNat % 0x4000) := by
  have remainder : a.toNat &&& 0x3FFF = a.toNat % 0x4000 := Nat.and_two_pow_sub_one_eq_mod a.toNat 14
  rw [← remainder, BitVec.ofNat_and, BitVec.ofNat_toNat, BitVec.setWidth_eq]
  rfl

/-- Bit 2 of PPUCTRL chooses the increment (10_state.md R32). -/
theorem Ppu.vramIncrement_toNat (p : Ppu) : p.vramIncrement.toNat = if p.ctrl.toNat / 4 % 2 = 1 then 32 else 1 := by
  simp only [Ppu.vramIncrement, Ppu.vramIncrementBit, getLsbD_eq_decide, decide_eq_true_eq, show 2 ^ 2 = 4 from rfl]
  split_ifs <;> rfl

/-- A data-port access in numbers: the wrap of the 16-bit sum does not show modulo 0x4000, which divides 0x10000 (20_memory.md R57). -/
theorem Ppu.increment_eq (p : Ppu) :
    p.increment = { p with addr := BitVec.ofNat 16 ((p.addr.toNat + if p.ctrl.toNat / 4 % 2 = 1 then 32 else 1) % 0x4000) } := by
  rw [Ppu.increment, Ppu.and_addrMask_eq_ofNat, BitVec.toNat_add, Ppu.vramIncrement_toNat, Nat.mod_mod_of_dvd _ (by decide)]

/-- `resetMemory` empties the list of stored bytes, and an unlisted byte reads 0 (20_memory.md R73). -/
theorem State.rawRead_resetMemory (s : State) (b : Addr) : s.resetMemory.rawRead b = 0 := rfl

/-- Settles O44. Each event is one record update; only the data-port access computes, and `Ppu.increment_eq` says what. -/
theorem hostEventsChangeOnlyTheirOwn : Obligations.HostEventsChangeOnlyTheirOwn := by
  unfold Obligations.HostEventsChangeOnlyTheirOwn
  intro s
  refine ⟨⟨s.resetMemory, rfl, rfl, s.rawRead_resetMemory⟩, rfl, rfl, rfl, ?dataAccess⟩
  case dataAccess => rw [← Ppu.increment_eq]; rfl

end Sys2Proof.Machine
end

section
/-! One instruction at a time (70_reset_and_hazards.md R272, R282). -/

namespace Sys2Proof.Machine

/-- The documented table charges every defined opcode at least 2 (70_reset_and_hazards.md R282). -/
theorem two_le_config_cycleTable {i : Instr} (hi : ∀ op, i ≠ .illegal op) : 2 ≤ config.cycleTable i.opcode := by
  cases i with
  | illegal op => exact absurd rfl (hi op)
  | _ => exact of_decide_eq_true rfl

/-- A completing step, an NMI entry included, moves its cost from `budget` to `cycles`, and the cost is at least 2 (70_reset_and_hazards.md R280, R282). -/
theorem step_next_cost {s t : State} (h : step s = .next t) : ∃ n : Nat, 2 ≤ n ∧ t.cycles = s.cycles + n ∧ t.budget = s.budget - n := by
  obtain ⟨u, n, rfl, cycles, budget, -, -, cost⟩ := stepWith_next_charge h
  refine ⟨n, ?_, by rw [State.charge_cycles, cycles], by rw [State.charge_budget, budget]⟩
  obtain rfl | ⟨i, hi, base⟩ := cost
  · decide
  · exact (two_le_config_cycleTable hi).trans base

/-- `runOneInstruction` on a running CPU is one step at a budget raised to 0 (70_reset_and_hazards.md R272). -/
theorem hostOp_runOneInstruction_running {s : State} (hr : s.resetDone = true) (hh : s.halted = false) :
    hostOp .runOneInstruction s = step { s with budget := max s.budget 0 } :=
  runOneInstructionWith_running config hr hh

/-- Settles O45. The operation is one step of the raised state, and `step_next_cost` says what that step costs. -/
theorem runOneInstructionIsOneStep : Obligations.RunOneInstructionIsOneStep := by
  unfold Obligations.RunOneInstructionIsOneStep
  intro s hr hh
  have one_step := hostOp_runOneInstruction_running hr hh
  exact ⟨one_step, fun _ completes => step_next_cost (one_step.symm.trans completes)⟩

end Sys2Proof.Machine
end

section
/-! The loop of `tick` at the defaults (70_reset_and_hazards.md R271). -/

namespace Sys2Proof.Machine

/-- On a running CPU the loop entered at `budget + 1` answers what `tick` answers, whatever number of steps past `budget + 1` it is watched for. -/
theorem stepWhileBudget_eq_hostOp_tick {s : State} (hr : s.resetDone = true) (hh : s.halted = false) {steps : Nat} (enough : s.budget + 2 ≤ steps) :
    stepWhileBudget config steps { s with budget := s.budget + 1 } = some (hostOp .tick s) := by
  have answers := hostOpWith_config .tick s
  rw [hostOpWith_tick, tickWith_running config _ hr hh] at answers
  exact stepWhileBudget_mono config _ _ _ answers steps (by omega)

/-- What follows the first step of `tick`, in whatever running state that step leaves: another `tick`, its added cycle taken back, or the end. -/
theorem stepWhileBudget_eq_tick_or_spent {t : State} (hr : t.resetDone = true) (hh : t.halted = false) {steps : Nat} (enough : t.budget + 1 ≤ steps) :
    stepWhileBudget config steps t = some (if 0 ≤ t.budget then hostOp .tick { t with budget := t.budget - 1 } else .next t) := by
  split_ifs with more
  · have goes_on := stepWhileBudget_eq_hostOp_tick (s := { t with budget := t.budget - 1 }) hr hh (steps := steps)
      (show t.budget - 1 + 2 ≤ _ by omega)
    simpa only [Int.sub_add_cancel] using goes_on
  · exact stepWhileBudget_spent config steps (by omega)

/-- Settles O46. `tick` is the loop watched for one step more than `budget + 1`: that step is the first one, and the steps left are enough for what follows it. -/
theorem tickRunsUntilTheBudgetIsSpent : Obligations.TickRunsUntilTheBudgetIsSpent := by
  unfold Obligations.TickRunsUntilTheBudgetIsSpent
  intro s hr hh first
  obtain ⟨left, enough⟩ : ∃ left : Nat, s.budget + 1 ≤ left := ⟨(s.budget + 1).toNat, Int.self_le_toNat _⟩
  have loop : stepWhileBudget config (left + 1) first = some (hostOp .tick s) := stepWhileBudget_eq_hostOp_tick hr hh (by omega)
  have answer {a : Answer} (h : stepWhileBudget config (left + 1) first = some a) : hostOp .tick s = a := Option.some.inj (loop.symm.trans h)
  refine ⟨fun neg => answer (stepWhileBudget_spent config _ neg), fun nonneg f hf => answer (stepWhileBudget_fault config left nonneg hf),
    fun nonneg t ht => answer ?goesOn, fun t ht => stepWith_next_budget_lt config_chargesEveryInstruction ht, ?notRefused, ?account⟩
  case goesOn =>
    obtain ⟨hr', hh'⟩ := stepWith_next_running ht
    have lower : t.budget < s.budget + 1 := stepWith_next_budget_lt config_chargesEveryInstruction ht
    rw [stepWhileBudget_next config left nonneg ht]
    exact stepWhileBudget_eq_tick_or_spent hr' hh' (by omega)
  case notRefused =>
    obtain ⟨a, ends, not_refused⟩ := stepWhileBudget_ends config_chargesEveryInstruction (left + 1) first hr (show s.budget + 1 + 1 ≤ _ by omega)
    rw [answer ends]
    exact not_refused
  case account =>
    intro t completes
    obtain ⟨spent, account⟩ := stepWhileBudget_account config (left + 1) first t (loop.trans (congrArg some completes))
    exact ⟨spent, account.trans (Int.add_assoc _ _ _).symm⟩

end Sys2Proof.Machine
end

section
/-! The decoder and the encoder undo each other (30_encoding.md R80 to R84, R89). -/

namespace Sys2Proof

/-- A format has at most two operand bytes (30_encoding.md R81). -/
theorem Operand.bytes_length_le (o : Operand) : o.bytes.length ≤ 2 := by
  cases o with
  | mem m => cases m <;> exact of_decide_eq_true rfl
  | _ => exact of_decide_eq_true rfl

/-- As many bytes are taken after the opcode byte as the format has (30_encoding.md R80). -/
theorem decode_cons (op : Byte) (tail : List Byte) :
    decode (op :: tail) =
      let i := decode3 op (tail.getD 0 0) (tail.getD 1 0)
      if tail.length < i.operand.bytes.length then .error (.truncated op) else .ok (i, tail.drop i.operand.bytes.length) := rfl

/-- The opcode byte and the operand bytes of a well-formed instruction, whatever follows them, are decoded as that instruction; a 16-bit operand is put
together again from its two bytes. -/
theorem decode3_encode {i : Instr} (h : wellFormed i = true) (rest : List Byte) :
    decode3 i.opcode ((i.operand.bytes ++ rest).getD 0 0) ((i.operand.bytes ++ rest).getD 1 0) = i := by
  cases i with
  | illegal op => exact Laws.EncodedLength.decode3_illegal op _ _ h
  | _ => simp [Instr.opcode, Instr.operand, Operand.bytes]

/-- Settles O1. The opcode byte gives the instruction back, whose length says how many of the bytes that follow are its own. -/
theorem decodeInvertsEncode : Obligations.DecodeInvertsEncode := by
  unfold Obligations.DecodeInvertsEncode
  intro i rest h
  have enough : ¬(i.operand.bytes ++ rest).length < i.operand.bytes.length := by rw [List.length_append]; omega
  rw [encode, List.cons_append, decode_cons, decode3_encode h, if_neg enough, List.drop_left]

/-- Every byte that is not one of R86's is one of R88's: of the 256 rows none decodes to an ill-formed term. -/
theorem wellFormed_decode3 (b1 b2 : Byte) : ∀ op : Byte, wellFormed (decode3 op b1 b2) = true :=
  of_decide_eq_true rfl

/-- What a row reads of the two bytes after its opcode byte is what it encodes: as many of them as its format has (30_encoding.md R81, R83). -/
theorem decode3_operand_bytes (op b1 b2 : Byte) :
    (decode3 op b1 b2).operand.bytes = [b1, b2].take (decode3 op b1 b2).operand.bytes.length := by
  unfold decode3
  split <;> simp [Instr.operand, Operand.bytes]

theorem take_getD_zero_one (l : List Byte) {k : Nat} (le_two : k ≤ 2) (le_length : k ≤ l.length) :
    [l.getD 0 0, l.getD 1 0].take k = l.take k := by
  obtain rfl | rfl | rfl : k = 0 ∨ k = 1 ∨ k = 2 := by omega
  · rfl
  · match l, le_length with
    | _ :: _, _ => rfl
  · match l, le_length with
    | _ :: _ :: _, _ => rfl

/-- Settles O2. The opcode byte is the decoded instruction's own, and of the bytes after it those before `rest` are its operand bytes. -/
theorem encodeInvertsDecode : Obligations.EncodeInvertsDecode := by
  unfold Obligations.EncodeInvertsDecode
  intro bytes i rest h
  cases bytes with
  | nil => cases h
  | cons op tail =>
    by_cases short : tail.length < (decode3 op (tail.getD 0 0) (tail.getD 1 0)).operand.bytes.length
    · rw [decode_cons, if_pos short] at h
      cases h
    · rw [decode_cons, if_neg short] at h
      cases h
      have own := decode3_operand_bytes op (tail.getD 0 0) (tail.getD 1 0)
      rw [take_getD_zero_one tail (Operand.bytes_length_le _) (Nat.le_of_not_lt short)] at own
      refine ⟨wellFormed_decode3 _ _ op, ?_⟩
      rw [encode, decode3_opcode, List.cons_append, own, List.length_take_of_le (Nat.le_of_not_lt short), List.take_append_drop]

end Sys2Proof

namespace Sys2Proof.Machine

/-- Settles O3. Which rows are illegal is known of every byte, and a row keeps its opcode byte. -/
theorem illegalBytesAreThe105Listed : Obligations.IllegalBytesAreThe105Listed := by
  unfold Obligations.IllegalBytesAreThe105Listed
  refine ⟨rfl, fun op b1 b2 => ⟨(decode3_eq_illegal_iff b1 b2 op).2, fun unlisted => ⟨decode3_opcode op b1 b2, fun o illegal => ?_⟩⟩⟩
  have own_byte : o = op := by
    have kept := decode3_opcode op b1 b2
    rwa [illegal] at kept
  exact unlisted ((decode3_eq_illegal_iff b1 b2 op).1 (own_byte ▸ illegal))

/-- Settles O4. The rows are evaluated. -/
theorem writtenOutWordsDecode : Obligations.WrittenOutWordsDecode := by
  unfold Obligations.WrittenOutWordsDecode
  exact ⟨rfl, rfl, rfl, rfl, rfl, rfl, rfl, rfl, rfl, rfl, rfl, rfl, rfl, rfl, rfl, rfl, rfl, rfl, rfl⟩

end Sys2Proof.Machine
end

section
/-! What a step and a host operation keep: canonical memory, PPUADDR in its space, the halted state and its record, and the bytes at non-canonical indexes
(10_state.md R31, R34, 60_exceptions.md R231). Memory and the PPU records change by bus writes only, and a bus write keeps all of it. -/

namespace Sys2Proof.Machine

/-- From `s` to `t` no part of a sound state is lost, and no byte at a non-canonical index is written. -/
structure Preserves (s t : State) : Prop where
  mem_wf : Memory.wf s.mem → Memory.wf t.mem
  ppu_addr : s.ppu.addr.toNat ≤ 0x3FFF → t.ppu.addr.toNat ≤ 0x3FFF
  halted_iff : s.halted = s.faultInfo.isSome → t.halted = t.faultInfo.isSome
  nonCanonical : ∀ b : Addr, mirror b ≠ b → t.rawRead b = s.rawRead b

theorem Preserves.inv {s t : State} (h : Preserves s t) (hs : s.Inv) : t.Inv :=
  ⟨h.mem_wf hs.mem_wf, h.ppu_addr hs.ppu_addr, h.halted_iff hs.halted_iff⟩

theorem Preserves.trans {s t u : State} (h : Preserves s t) (h' : Preserves t u) : Preserves s u where
  mem_wf wf := h'.mem_wf (h.mem_wf wf)
  ppu_addr le := h'.ppu_addr (h.ppu_addr le)
  halted_iff iff := h'.halted_iff (h.halted_iff iff)
  nonCanonical b hb := (h'.nonCanonical b hb).trans (h.nonCanonical b hb)

/-- An update of registers, flags, counters and the pending NMI. -/
theorem Preserves.of_eq {s t : State} (mem : t.mem = s.mem) (ppu : t.ppu = s.ppu) (halted : t.halted = s.halted)
    (faultInfo : t.faultInfo = s.faultInfo) : Preserves s t where
  mem_wf wf := mem ▸ wf
  ppu_addr le := ppu ▸ le
  halted_iff iff := by rw [halted, faultInfo, iff]
  nonCanonical b _ := congrArg (Memory.read · b.toNat) mem

/-- A bus write stores at a canonical index, and masks PPUADDR where it writes it (20_memory.md R47, R55, R57). -/
theorem Preserves.busWrite (s : State) (a : Addr) (v : Byte) : Preserves s (s.busWrite a v) where
  mem_wf wf := Memory.wf_write wf (mirror_lt a) v
  ppu_addr le := Ppu.busWrite_addr_le le (mirror a) v
  halted_iff iff := iff
  nonCanonical b hb := by
    obtain ⟨-, -, kept, -⟩ := aliasedAddressesHoldOneByte s a b v
    exact kept hb

theorem Preserves.modifyOperand (s : State) (f : Byte → Flags → Byte × Flags) (m : MemOperand) : Preserves s (s.modifyOperand f m) :=
  (Preserves.busWrite s (MemOperand.ea m s) (f (s.readOperand m) s.flags).1).trans (.of_eq rfl rfl rfl rfl)

theorem Preserves.push8 (s : State) (v : Byte) : Preserves s (s.push8 v) :=
  (Preserves.busWrite s (stackAddr s.sp) v).trans (.of_eq rfl rfl rfl rfl)

theorem Preserves.push16 (s : State) (v : Addr) : Preserves s (s.push16 v) :=
  (Preserves.push8 s (highByte v)).trans (.push8 _ (lowByte v))

theorem Preserves.enterTrap (s : State) (ret : Addr) (brk : Bool) (vector : Addr) : Preserves s (s.enterTrap ret brk vector) :=
  (Preserves.push16 s ret).trans ((Preserves.push8 _ (s.flags.statusByte brk)).trans (.of_eq rfl rfl rfl rfl))

theorem Preserves.breakWith (s : State) (offset : Addr) : Preserves s (s.breakWith offset) :=
  (Preserves.of_eq (s := s) (t := s.setFlags { s.flags with b := true }) rfl rfl rfl rfl).trans (.enterTrap _ (s.pc - 1 + offset) true brkVector)

theorem Preserves.jumpSubroutine (s : State) (target : Addr) : Preserves s (s.jumpSubroutine target) :=
  (Preserves.push16 s (s.pc - 1)).trans (.of_eq rfl rfl rfl rfl)

theorem Preserves.branch (s : State) (cond : Cond) (off : Byte) : Preserves s (s.branch cond off) := by
  rw [State.branch_eq]
  exact .of_eq rfl rfl rfl rfl

/-- The meaning of a defined opcode writes memory and PPU records by bus writes only. -/
theorem exec_preserves {i : Instr} (hi : ∀ op, i ≠ .illegal op) {s t : State} (h : exec i s = .next t) : Preserves s t := by
  cases i with
  | illegal op => exact absurd rfl (hi op)
  | bcc off | bcs off | beq off | bne off | bmi off | bpl off | bvc off | bvs off => cases h; exact .branch s _ off
  | brk => cases h; exact .breakWith s _
  | pha | php => cases h; exact .push8 s _
  | jsr addr => cases h; exact .jumpSubroutine s addr
  | staZp m | staZpx m | staAbs m | staAbsx m | staAbsy m | staIndx m | staIndy m | stxZp m | stxZpy m | stxAbs m | styZp m | styZpx m | styAbs m =>
    cases h; exact .busWrite s _ _
  | incZp m | incZpx m | incAbs m | incAbsx m | decZp m | decZpx m | decAbs m | decAbsx m
  | aslZp m | aslZpx m | aslAbs m | aslAbsx m | lsrZp m | lsrZpx m | lsrAbs m | lsrAbsx m
  | rolZp m | rolZpx m | rolAbs m | rolAbsx m | rorZp m | rorZpx m | rorAbs m | rorAbsx m => cases h; exact .modifyOperand s _ _
  | _ => cases h; exact .of_eq rfl rfl rfl rfl

theorem execWith_preserves (cfg : Config) {i : Instr} (hi : ∀ op, i ≠ .illegal op) {s t : State} (h : execWith cfg i s = .next t) :
    Preserves s t := by
  by_cases hb : i = .brk
  · subst hb
    rw [execWith_brk] at h
    cases h
    exact .breakWith s _
  · rw [execWith_of_ne cfg hb] at h
    exact exec_preserves hi h

/-- `P` holds of the state an answer leaves the machine in, be it the next state or the one its fault carries; a refusal leaves none. -/
def Leaves (P : State → Prop) : Answer → Prop
  | .next t => P t
  | .fault (.illegalOpcode _ left) => P left
  | .refused _ => True

theorem Leaves.imp {P Q : State → Prop} (h : ∀ t, P t → Q t) {a : Answer} (ha : Leaves P a) : Leaves Q a := by
  match a, ha with
  | .next t, ha => exact h t ha
  | .fault (.illegalOpcode _ left), ha => exact h left ha
  | .refused _, _ => trivial

/-- A fetch either records its fault as it halts, or completes with a meaning and a charge. -/
theorem runInstruction_leaves_preserved (cfg : Config) {s : State} (hh : s.halted = false) : Leaves (Preserves s) (runInstruction cfg s) := by
  obtain ⟨op, -, e⟩ | ⟨i, t, -, hi, ht, -, e⟩ := runInstruction_cases cfg hh <;> rw [e]
  · exact ⟨id, id, fun _ => rfl, fun _ _ => rfl⟩
  · have fetched : Preserves s (s.advance i) := .of_eq rfl rfl rfl rfl
    exact fetched.trans ((execWith_preserves cfg hi ht).trans (.of_eq rfl rfl rfl rfl))

theorem stepWith_leaves_preserved (cfg : Config) (s : State) : Leaves (Preserves s) (stepWith cfg s) := by
  obtain ⟨-, e⟩ | ⟨-, -, e⟩ | ⟨-, -, -, e⟩ | ⟨-, hh, -, e⟩ := stepWith_cases cfg s <;> rw [e]
  · trivial
  · exact .of_eq rfl rfl rfl rfl
  · have consumed : Preserves s { s with nmiPending := false } := .of_eq rfl rfl rfl rfl
    exact consumed.trans ((Preserves.enterTrap _ s.pc false nmiVector).trans (.of_eq rfl rfl rfl rfl))
  · exact runInstruction_leaves_preserved cfg hh

/-- Settles O56. A step preserves the parts of the invariant one by one. -/
theorem stepKeepsTheInvariant : Obligations.StepKeepsTheInvariant := by
  unfold Obligations.StepKeepsTheInvariant
  intro cfg s hs
  have leaves : Leaves State.Inv (stepWith cfg s) := (stepWith_leaves_preserved cfg s).imp fun t h => h.inv hs
  exact ⟨fun t ht => by rwa [ht] at leaves, fun info left hf => by rwa [hf] at leaves⟩

/-- Settles O53. The two ranges are indexes that are not their own mirrors, and a completing step preserves the bytes there. -/
theorem nonCanonicalBytesAreNeverWritten : Obligations.NonCanonicalBytesAreNeverWritten := by
  unfold Obligations.NonCanonicalBytesAreNeverWritten
  intro s t b completes range
  have not_own_mirror : mirror b ≠ b := by
    rw [Ne, ← BitVec.toNat_inj, mirror_toNat]
    split_ifs <;> omega
  have leaves := stepWith_leaves_preserved config s
  rw [← step, completes] at leaves
  exact leaves.nonCanonical b not_own_mirror

/-- What holds of every state the host can bring about: the invariant, and 0x00 at every index the bus cannot reach (10_state.md R31). -/
structure State.Sound (s : State) : Prop where
  inv : s.Inv
  nonCanonical : ∀ b : Addr, mirror b ≠ b → s.rawRead b = 0

theorem Preserves.sound {s t : State} (h : Preserves s t) (hs : s.Sound) : t.Sound :=
  ⟨h.inv hs.inv, fun b hb => (h.nonCanonical b hb).trans (hs.nonCanonical b hb)⟩

theorem stepWith_leaves_sound (cfg : Config) {s : State} (hs : s.Sound) : Leaves State.Sound (stepWith cfg s) :=
  (stepWith_leaves_preserved cfg s).imp fun _ h => h.sound hs

/-- The loop of `tick` ends in what one of its steps left, or in the state it began in (70_reset_and_hazards.md R271). -/
theorem stepWhileBudget_leaves_sound (cfg : Config) (steps : Nat) {s : State} (hs : s.Sound) {a : Answer}
    (h : stepWhileBudget cfg steps s = some a) : Leaves State.Sound a := by
  induction steps generalizing s with
  | zero =>
    by_cases hb : 0 ≤ s.budget
    · rw [stepWhileBudget_zero cfg hb] at h; cases h
    · rw [stepWhileBudget_spent cfg 0 (by omega)] at h
      cases h
      exact hs
  | succ steps ih =>
    by_cases hb : 0 ≤ s.budget
    · have leaves := stepWith_leaves_sound cfg hs
      cases hstep : stepWith cfg s with
      | next t =>
        rw [stepWhileBudget_next cfg steps hb hstep] at h
        rw [hstep] at leaves
        exact ih leaves h
      | fault f =>
        rw [stepWhileBudget_fault cfg steps hb hstep] at h
        cases h
        rwa [hstep] at leaves
      | refused r =>
        rw [stepWhileBudget_refused cfg steps hb hstep] at h
        cases h
        trivial
    · rw [stepWhileBudget_spent cfg _ (by omega)] at h
      cases h
      exact hs

theorem runOneInstructionWith_leaves_sound (cfg : Config) {s : State} (hs : s.Sound) : Leaves State.Sound (runOneInstructionWith cfg s) := by
  unfold runOneInstructionWith
  split
  · have raised : Preserves s { s with budget := if s.budget < 0 then 0 else s.budget } := .of_eq rfl rfl rfl rfl
    exact stepWith_leaves_sound cfg (raised.sound hs)
  · exact stepWith_leaves_sound cfg hs

theorem tickWith_leaves_sound (cfg : Config) (steps : Nat) {s : State} (hs : s.Sound) {a : Answer} (h : tickWith cfg steps s = some a) :
    Leaves State.Sound a := by
  unfold tickWith at h
  split at h
  · have raised : Preserves s { s with budget := s.budget + 1 } := .of_eq rfl rfl rfl rfl
    exact stepWhileBudget_leaves_sound cfg steps (raised.sound hs) h
  · cases h
    exact stepWith_leaves_sound cfg hs

theorem State.resetMemory_sound {s : State} (hs : s.Sound) : s.resetMemory.Sound :=
  ⟨⟨Memory.wf_nil, hs.inv.ppu_addr, hs.inv.halted_iff⟩, fun b _ => s.rawRead_resetMemory b⟩

/-- After memory is kept or zeroed a reset writes registers and counters, and clears `halted` and its record together (70_reset_and_hazards.md R260). -/
theorem State.resetWith_sound (zeroesMemory : Bool) {s : State} (hs : s.Sound) : (s.resetWith zeroesMemory).Sound := by
  have cleared {t : State} (ht : t.Sound) : (t.resetWith false).Sound :=
    ⟨⟨ht.inv.mem_wf, ht.inv.ppu_addr, rfl⟩, ht.nonCanonical⟩
  cases zeroesMemory with
  | false => exact cleared hs
  | true => exact cleared (State.resetMemory_sound hs)

/-- A data-port access masks PPUADDR (70_reset_and_hazards.md R276). -/
theorem State.ppuDataAccess_sound {s : State} (hs : s.Sound) : s.ppuDataAccess.Sound :=
  ⟨⟨hs.inv.mem_wf, Ppu.masked_le _, hs.inv.halted_iff⟩, hs.nonCanonical⟩

/-- The program windows lie in the space above 0x4000, where every index is canonical (20_memory.md R45, R72). -/
theorem loadProgram_leaves_sound (image : List Byte) {s : State} (hs : s.Sound) : Leaves State.Sound (loadProgram image s) := by
  unfold loadProgram
  split
  · trivial
  · have program_length : ((image.drop headerLen).take prgLen).length ≤ 16384 := List.length_take_le _ _
    refine ⟨⟨?wf, hs.inv.ppu_addr, hs.inv.halted_iff⟩, fun b hb => ?nonCanonical⟩
    case wf => exact Memory.wf_writeBytes _ (Memory.wf_writeBytes _ hs.inv.mem_wf (by omega)) (by omega)
    case nonCanonical =>
      have below : b.toNat < 0x4000 := by
        by_contra above
        exact hb (mirror_of_canonical (.inr (.inr (by omega))))
      refine Eq.trans ?_ (hs.nonCanonical b hb)
      simp only [State.rawRead, Memory.read_writeBytes]
      rw [if_neg (by omega), if_neg (by omega)]

/-- Whatever operation the host calls, a sound state is left sound. -/
theorem hostOpWith_leaves_sound (cfg : Config) (steps : Nat) (op : HostOp) {s : State} (hs : s.Sound) {a : Answer}
    (h : hostOpWith cfg steps op s = some a) : Leaves State.Sound a := by
  cases op with
  | tick => exact tickWith_leaves_sound cfg steps hs h
  | reset => cases h; exact State.resetWith_sound cfg.resetZeroesMemory hs
  | runOneInstruction => cases h; exact runOneInstructionWith_leaves_sound cfg hs
  | loadProgram image => cases h; exact loadProgram_leaves_sound image hs
  | resetMemory => cases h; exact State.resetMemory_sound hs
  | triggerNmi | ppuStatusRead => cases h; exact ⟨⟨hs.inv.mem_wf, hs.inv.ppu_addr, hs.inv.halted_iff⟩, hs.nonCanonical⟩
  | ppuDataAccess => cases h; exact State.ppuDataAccess_sound hs

/-- Settles O60. Both answers of the statement are states that the operation leaves. -/
theorem hostOperationsKeepTheInvariant : Obligations.HostOperationsKeepTheInvariant := by
  unfold Obligations.HostOperationsKeepTheInvariant
  intro cfg steps op s inv nonCanonical
  have leaves {a : Answer} (h : hostOpWith cfg steps op s = some a) : Leaves State.Sound a :=
    hostOpWith_leaves_sound cfg steps op ⟨inv, nonCanonical⟩ h
  constructor
  · intro t completes
    have sound : t.Sound := leaves completes
    exact ⟨sound.inv, sound.nonCanonical⟩
  · intro info left faults
    have sound : left.Sound := leaves faults
    exact ⟨sound.inv, sound.nonCanonical⟩

theorem State.powerOn_inv : State.powerOn.Inv := ⟨Memory.wf_nil, by decide, rfl⟩

/-- Settles O55. Both states list no byte, hold 0 in PPUADDR, and are not halted. -/
theorem resetStateHasTheInvariant : Obligations.ResetStateHasTheInvariant := by
  unfold Obligations.ResetStateHasTheInvariant
  exact ⟨⟨Memory.wf_nil, by decide, rfl⟩, State.powerOn_inv⟩

theorem HostReachable.sound {s : State} (h : HostReachable s) : s.Sound := by
  induction h with
  | powerOn => exact ⟨State.powerOn_inv, fun _ _ => rfl⟩
  | operation op s t _ completes ih =>
    have leaves := hostOpWith_leaves_sound config _ op ih (hostOpWith_config op s)
    rwa [completes] at leaves
  | fault op s info left _ faults ih =>
    have leaves := hostOpWith_leaves_sound config _ op ih (hostOpWith_config op s)
    rwa [faults] at leaves

/-- Settles O57. Construction is sound, and every operation leaves a sound state. -/
theorem everyReachableStateIsSound : Obligations.EveryReachableStateIsSound := by
  unfold Obligations.EveryReachableStateIsSound
  intro s h
  exact ⟨h.sound.inv, h.sound.nonCanonical⟩

end Sys2Proof.Machine
end

section
/-! Every instruction completes (60_exceptions.md R233). -/

namespace Sys2Proof.Machine

/-- Settles O6. A defined opcode leaves counters and hidden state alone; the illegal one writes `halted`, its record and `PC`. -/
theorem everyInstructionCompletes : Obligations.EveryInstructionCompletes := by
  unfold Obligations.EveryInstructionCompletes
  intro i s
  by_cases hi : ∃ op, i = .illegal op
  · obtain ⟨op, rfl⟩ := hi
    exact ⟨s.raiseIllegal op, rfl, rfl, rfl, rfl, rfl, fun legal => absurd rfl (legal op), fun _ _ => rfl⟩
  · rw [not_exists] at hi
    obtain ⟨t, ht, same⟩ := exec_sameControl hi s
    exact ⟨t, ht, same.cycles, same.budget, same.nmiPending, same.resetDone, fun _ => ⟨same.halted, same.faultInfo⟩,
      fun op illegal => absurd illegal (hi op)⟩

end Sys2Proof.Machine
end

section
/-! The register window (20_memory.md R52 to R59): what each of its addresses writes, in numbers. -/

namespace Sys2Proof.Machine

theorem Ppu.busWrite_scroll (p : Ppu) (v : Byte) : p.busWrite 0x2005 v = p.writeScroll v := rfl

theorem Ppu.busWrite_addr (p : Ppu) (v : Byte) : p.busWrite 0x2006 v = p.writeAddr v := rfl

theorem Ppu.busWrite_data (p : Ppu) (v : Byte) : p.busWrite 0x2007 v = p.increment := rfl

theorem Ppu.writeScroll_first {p : Ppu} (h : p.w = false) (v : Byte) : p.writeScroll v = { p with scrollX := v, w := true } := by
  rw [Ppu.writeScroll, h]; rfl

theorem Ppu.writeScroll_second {p : Ppu} (h : p.w = true) (v : Byte) : p.writeScroll v = { p with scrollY := v, w := false } := by
  rw [Ppu.writeScroll, h]; rfl

/-- The first write replaces the high half of PPUADDR (20_memory.md R55). -/
theorem Ppu.writeAddr_first {p : Ppu} (h : p.w = false) (v : Byte) :
    p.writeAddr v = { p with addr := BitVec.ofNat 16 ((256 * v.toNat + p.addr.toNat % 256) % 0x4000), w := true } := by
  rw [Ppu.writeAddr, h, Ppu.and_addrMask_eq_ofNat, Ppu.and_addrMask_eq_ofNat, concat16_toNat v, lowByte_toNat]
  rfl

/-- The second write replaces the low half (20_memory.md R55). -/
theorem Ppu.writeAddr_second {p : Ppu} (h : p.w = true) (v : Byte) :
    p.writeAddr v = { p with addr := BitVec.ofNat 16 ((256 * (p.addr.toNat / 256) + v.toNat) % 0x4000), w := false } := by
  rw [Ppu.writeAddr, h, Ppu.and_addrMask_eq_ofNat, Ppu.and_addrMask_eq_ofNat, concat16_toNat _ v, highByte_toNat]
  rfl

/-- Of the eight addresses of the window three have no record (20_memory.md R52, R59). -/
theorem Ppu.busWrite_of_no_record (p : Ppu) (v : Byte) {c : Addr}
    (h : c.toNat < 0x2000 ∨ c.toNat = 0x2002 ∨ c.toNat = 0x2003 ∨ c.toNat = 0x2004 ∨ 0x2008 ≤ c.toNat) : p.busWrite c v = p := by
  obtain below | at_2002 | at_2003 | at_2004 | above := h
  · exact p.busWrite_of_ne v (.inl below)
  · obtain rfl : c = 0x2002 := BitVec.eq_of_toNat_eq at_2002
    rfl
  · obtain rfl : c = 0x2003 := BitVec.eq_of_toNat_eq at_2003
    rfl
  · obtain rfl : c = 0x2004 := BitVec.eq_of_toNat_eq at_2004
    rfl
  · exact p.busWrite_of_ne v (.inr above)

/-- Settles O10. The canonical address chooses the record, and for the two pairs of registers the latch chooses the half. -/
theorem registerWindowWrites : Obligations.RegisterWindowWrites := by
  unfold Obligations.RegisterWindowWrites
  intro s a v p q c
  have at_address {k : Addr} (h : c = k.toNat) : q = p.busWrite k v := congrArg (p.busWrite · v) (BitVec.eq_of_toNat_eq h)
  refine ⟨?stored, fun h => at_address (k := 0x2000) h, fun h => at_address (k := 0x2001) h, fun h first => ?_, fun h second => ?_, fun h first => ?_, fun h second => ?_,
    fun h => ?_, fun h => p.busWrite_of_no_record v h⟩
  case stored => rw [State.rawRead_busWrite, if_pos rfl]
  · rw [at_address (k := 0x2005) h, Ppu.busWrite_scroll, Ppu.writeScroll_first first]
  · rw [at_address (k := 0x2005) h, Ppu.busWrite_scroll, Ppu.writeScroll_second second]
  · rw [at_address (k := 0x2006) h, Ppu.busWrite_addr, Ppu.writeAddr_first first]
  · rw [at_address (k := 0x2006) h, Ppu.busWrite_addr, Ppu.writeAddr_second second]
  · rw [at_address (k := 0x2007) h, Ppu.busWrite_data, Ppu.increment_eq]

end Sys2Proof.Machine
end

section
/-! The three 16-bit reads (20_memory.md R48 to R50): where the address of the second byte wraps. -/

namespace Sys2Proof.Machine

theorem add_one_eq_ofNat (a : Addr) : a + 1 = BitVec.ofNat 16 ((a.toNat + 1) % 65536) :=
  add_zext16_eq_ofNat a 1

/-- Away from the end of a page the next address of the page is the next address. -/
theorem concat16_highByte_lowByte_add_one {a : Addr} (h : a.toNat % 256 ≠ 255) : concat16 (highByte a) (lowByte a + 1) = a + 1 := by
  apply BitVec.eq_of_toNat_eq
  rw [concat16_toNat, highByte_toNat, BitVec.toNat_add, lowByte_toNat, BitVec.toNat_add, show BitVec.toNat (1 : Byte) = 1 from rfl,
    show BitVec.toNat (1 : Addr) = 1 from rfl]
  have := a.isLt
  omega

/-- Settles O11. Each read in numbers, and the modes that use it. -/
theorem sixteenBitReadsWrapAsTheirRulesSay : Obligations.SixteenBitReadsWrapAsTheirRulesSay := by
  unfold Obligations.SixteenBitReadsWrapAsTheirRulesSay
  intro s z a
  refine ⟨s.readZeroPage16_eq_wordOf z, s.readPageWrap16_eq_wordOf a, fun inside => ?_, ?_, rfl, rfl, rfl⟩
  · rw [State.readPageWrap16, concat16_highByte_lowByte_add_one inside, State.busRead16]
  · rw [← add_one_eq_ofNat, wordOf_eq_concat16, State.busRead16]

end Sys2Proof.Machine
end

section
/-! Pushes and pulls of one byte (44_stack_flags_nop.md R180 to R183): what each leaves, and that a pull takes what the last push left. -/

namespace Sys2Proof.Machine

/-- A pull reads the byte that the push before it wrote, at any `S` (10_state.md R26, R27). -/
theorem State.rawRead_push8_top (s : State) (v : Byte) : (s.push8 v).rawRead (stackAddr ((s.push8 v).sp + 1)) = v := by
  have top : s.sp - 1 + 1 = s.sp := BitVec.sub_add_cancel s.sp 1
  rw [State.push8_sp, top, State.rawRead_push8, if_pos rfl]

theorem State.push8_sp_add_one (s : State) (v : Byte) : (s.push8 v).sp + 1 = s.sp := by
  rw [State.push8_sp]
  exact BitVec.sub_add_cancel s.sp 1

theorem State.pull8_eq (s : State) : s.pull8 = (s.rawRead (stackAddr (s.sp + 1)), s.setSp (s.sp + 1)) :=
  Prod.ext s.pull8_fst s.pull8_snd

/-- Settles O31. The pull reads memory and `S` only, and those are as the push left them. -/
theorem pullUndoesPush : Obligations.PullUndoesPush := by
  unfold Obligations.PullUndoesPush
  intro s a x y f pc
  refine ⟨⟨_, _, rfl, rfl, ?pla, s.push8_sp_add_one s.a⟩, ⟨_, _, rfl, rfl, ?plp, s.push8_sp_add_one (s.flags.statusByte true)⟩⟩
  case pla => exact (State.pull8_fst _).trans (s.rawRead_push8_top s.a)
  case plp =>
    have status := (State.pull8_fst _).trans (s.rawRead_push8_top (s.flags.statusByte true))
    exact (congrArg Flags.ofStatusByte status).trans (Flags.ofStatusByte_statusByte s.flags true)

/-- Settles O29. A push writes one byte of the stack page and lowers `S`; the status byte is a sum of weights. -/
theorem phaAndPhpPushOneByte : Obligations.PhaAndPhpPushOneByte := by
  unfold Obligations.PhaAndPhpPushOneByte
  intro s bit status
  have status_eq : s.flags.statusByte true = BitVec.ofNat 8 status := s.flags.statusByte_eq_ofNat true
  have pushed (v : Byte) : s.push8 v = { s with sp := s.sp - 1, mem := (s.push8 v).mem } := by rw [State.push8_eq]
  simp only [stackAt_eq_stackAddr, ← status_eq]
  exact ⟨⟨rfl, _, rfl, pushed _, s.rawRead_push8 _⟩, ⟨rfl, _, rfl, pushed _, s.rawRead_push8 _⟩⟩

/-- Settles O30. A pull raises `S` and reads there; each flag of PLP is a bit of the byte. -/
theorem plaAndPlpPullOneByte : Obligations.PlaAndPlpPullOneByte := by
  unfold Obligations.PlaAndPlpPullOneByte
  intro s m bit
  have pulled : s.pull8 = (m, s.setSp (s.sp + 1)) := by rw [State.pull8_eq, ← stackAt_eq_stackAddr]
  simp only [bit, ← getLsbD_eq_decide, ← Flags.setZN_eq_zn]
  refine ⟨⟨rfl, ?pla⟩, ⟨rfl, ?plp⟩⟩
  case pla => simp only [exec, execPla, pulled]; rfl
  case plp => simp only [exec, execPlp, pulled]; rfl

end Sys2Proof.Machine
end

section
/-! The traps and the return from them (45_control_flow.md R218, R219, 60_exceptions.md R240 to R242). -/

namespace Sys2Proof.Machine

/-- RTI at any `PC`, run where a trap left memory and `S`, undoes the trap but for the pushed bytes, and for B, which was pushed as the break bit (60_exceptions.md R242). -/
theorem State.returnFromTrap_enterTrap (s : State) (ret : Addr) (brk : Bool) (vector p : Addr) :
    ((s.enterTrap ret brk vector).setPc p).returnFromTrap =
      { s with pc := ret, flags := { s.flags with b := brk }, mem := (s.enterTrap ret brk vector).mem } := by
  have status_at : s.sp - 3 + 1 = s.sp - 2 := by bv_omega
  have low_at : s.sp - 3 + 2 = s.sp - 1 := by bv_omega
  have high_at : s.sp - 3 + 3 = s.sp := by bv_omega
  have one_below : s.sp ≠ s.sp - 1 := by bv_omega
  have two_below : s.sp ≠ s.sp - 2 := by bv_omega
  have apart : s.sp - 1 ≠ s.sp - 2 := by bv_omega
  rw [State.returnFromTrap_eq]
  simp only [State.setPc_sp, State.rawRead_setPc, State.enterTrap_sp, State.rawRead_enterTrap, status_at, low_at, high_at, stackAddr_inj,
    one_below, two_below, apart, if_true, if_false, concat16_high_low, Flags.ofStatusByte_statusByte]
  rw [State.enterTrap_eq]
  rfl

/-- The return reads no counter. -/
theorem State.returnFromTrap_charge (s : State) (n : Nat) : (s.charge n).returnFromTrap = s.returnFromTrap.charge n := by
  rw [State.returnFromTrap_eq, State.returnFromTrap_eq]
  rfl

/-- Settles O38. Both are a trap and its return; BRK has set B before, and the NMI entry has consumed the request and is charged after. -/
theorem rtiReturnsFromBothTraps : Obligations.RtiReturnsFromBothTraps := by
  unfold Obligations.RtiReturnsFromBothTraps
  intro s p
  refine ⟨⟨(s.setFlags { s.flags with b := true }).enterTrap (s.pc - 1 + 2) true brkVector, rfl, ?brk⟩, fun hr hh hn => ⟨_, stepWith_nmi config hr hh hn, ?nmi⟩⟩
  case brk =>
    exact congrArg Host.Outcome.next (State.returnFromTrap_enterTrap (s.setFlags { s.flags with b := true }) (s.pc - 1 + 2) true brkVector p)
  case nmi =>
    have returned := State.returnFromTrap_enterTrap { s with nmiPending := false } s.pc false nmiVector p
    change Host.Outcome.next ((s.enterNmi.setPc p).charge nmiCycles).returnFromTrap = _
    rw [State.returnFromTrap_charge, State.enterNmi, returned]
    rfl

/-- Settles O36. BRK is the trap from the state with B set. -/
theorem brkTakesTheTrap : Obligations.BrkTakesTheTrap := by
  unfold Obligations.BrkTakesTheTrap
  intro s bit status
  have status_eq : s.flags.statusByte true = BitVec.ofNat 8 status := s.flags.statusByte_eq_ofNat true
  rw [← status_eq]
  exact ⟨rfl, _, rfl, State.enterTrap_trapFrame (s.setFlags { s.flags with b := true }) (s.pc - 1 + 2) true brkVector⟩

/-- Settles O39. The NMI entry is the trap from the state without the request, and is charged. -/
theorem nmiIsTakenAtTheNextStep : Obligations.NmiIsTakenAtTheNextStep := by
  unfold Obligations.NmiIsTakenAtTheNextStep
  intro s hr hh hn bit status
  have status_eq : s.flags.statusByte false = BitVec.ofNat 8 status := s.flags.statusByte_eq_ofNat false
  rw [← status_eq]
  exact ⟨_, stepWith_nmi config hr hh hn, (State.enterTrap_trapFrame { s with nmiPending := false } s.pc false nmiVector).charge nmiCycles⟩

/-- Settles O40. `exec` records the fault; the fetch of a listed byte reads it, and the step is then known. -/
theorem illegalOpcodeHaltsPrecisely : Obligations.IllegalOpcodeHaltsPrecisely := by
  unfold Obligations.IllegalOpcodeHaltsPrecisely
  refine ⟨fun s op => ⟨rfl, rfl⟩, ?_⟩
  rintro s ⟨hr, hh, hn⟩ listed info
  have fetched : s.fetch config.implemented = .illegal (s.busRead s.pc) := (decode3_eq_illegal_iff _ _ _).2 listed
  rw [step, stepWith_fetch config hr hh hn]
  exact runInstruction_of_illegal config hh fetched

end Sys2Proof.Machine
end

section
/-! `loadProgram` (20_memory.md R72): the program after the header, in both windows. -/

namespace Sys2Proof.Machine

theorem program_getD (image : List Byte) {i : Nat} (h : i < prgLen) :
    ((image.drop headerLen).take prgLen).getD i 0 = image.getD (16 + i) 0 := by
  rw [List.getD_eq_getElem?_getD, List.getElem?_take_of_lt h, List.getElem?_drop, List.getD_eq_getElem?_getD, headerLen]

/-- A program of 16384 bytes fills each window from end to end (20_memory.md R72). -/
theorem Memory.read_windows (m : Memory) {prg : List Byte} (length : prg.length = 16384) (b : Nat) :
    Memory.read (Memory.writeBytes (Memory.writeBytes m 0x8000 prg) 0xC000 prg) b =
      if 0xC000 ≤ b ∧ b < 0x10000 then prg.getD (b - 0xC000) 0
      else if 0x8000 ≤ b ∧ b < 0xC000 then prg.getD (b - 0x8000) 0
      else Memory.read m b := by
  rw [Memory.read_writeBytes, Memory.read_writeBytes, length]

/-- Settles O43. The image is long enough for a program of full length, and both windows hold it. -/
theorem loadProgramFillsBothWindows : Obligations.LoadProgramFillsBothWindows := by
  unfold Obligations.LoadProgramFillsBothWindows
  intro s image
  refine ⟨fun long => ?_, fun short => if_pos short⟩
  have program_length : ((image.drop headerLen).take prgLen).length = 16384 := by
    rw [List.length_take_of_le]
    · rfl
    · rw [List.length_drop, headerLen, prgLen]; omega
  have windows := Memory.read_windows s.mem program_length
  refine ⟨_, if_neg (Nat.not_lt.2 long), rfl, fun b below => ?_, fun i hi => ⟨?_, ?_⟩⟩
  · rw [State.rawRead, windows, if_neg (by omega), if_neg (by omega), State.rawRead]
  · have index : (BitVec.ofNat 16 (0x8000 + i)).toNat = 0x8000 + i := by rw [BitVec.toNat_ofNat]; omega
    rw [State.rawRead, windows, index, if_neg (by omega), if_pos (by omega), Nat.add_sub_cancel_left, program_getD image hi]
  · have index : (BitVec.ofNat 16 (0xC000 + i)).toNat = 0xC000 + i := by rw [BitVec.toNat_ofNat]; omega
    rw [State.rawRead, windows, index, if_pos (by omega), Nat.add_sub_cancel_left, program_getD image hi]

end Sys2Proof.Machine
end

section
/-! The cost of an instruction (70_reset_and_hazards.md R282, R283). -/

namespace Sys2Proof.Machine

theorem cycleCost_read {table : Byte → Nat} {s : State} {i : Instr} {m : MemOperand} {base : Nat} {crossed : Bool} (reads : cycleClass i = .read)
    (operand : i.operand = .mem m) (hbase : table i.opcode = base) (hcrossed : MemOperand.crossed m s = crossed) :
    cycleCost table i s = base + if crossed then 1 else 0 := by
  rw [cycleCost, cyclePenalty, reads, operand, hbase, ← hcrossed]

theorem cycleCost_branch (table : Byte → Nat) (s : State) {i : Instr} {cond : Cond} {off : Byte} (branches : cycleClass i = .branch cond)
    (operand : i.operand = .rel off) :
    cycleCost table i s = table i.opcode + if s.flags.holds cond then (if branchCrossed off s then 2 else 1) else 0 := by
  rw [cycleCost, cyclePenalty, branches, operand]

/-- The opcode bytes of the reads in absolute,X, absolute,Y and (zp),Y and of the branches: what can pay a penalty (70_reset_and_hazards.md R283). -/
def penaltyOpcodes : List Byte :=
  [0xBD, 0xBC, 0x7D, 0xFD, 0x3D, 0x1D, 0x5D, 0xDD, 0xB9, 0xBE, 0x79, 0xF9, 0x39, 0x19, 0x59, 0xD9, 0xB1, 0x71, 0xF1, 0x31, 0x11, 0x51, 0xD1,
    0x90, 0xB0, 0xF0, 0xD0, 0x30, 0x10, 0x50, 0x70]

/-- Every other instruction is no read, or reads in a mode that never crosses. -/
theorem cyclePenalty_eq_zero {i : Instr} (h : i.opcode ∉ penaltyOpcodes) (s : State) : cyclePenalty i s = 0 := by
  cases i with
  | ldaAbsx m | ldyAbsx m | adcAbsx m | sbcAbsx m | andAbsx m | oraAbsx m | eorAbsx m | cmpAbsx m
  | ldaAbsy m | ldxAbsy m | adcAbsy m | sbcAbsy m | andAbsy m | oraAbsy m | eorAbsy m | cmpAbsy m
  | ldaIndy m | adcIndy m | sbcIndy m | andIndy m | oraIndy m | eorIndy m | cmpIndy m
  | bcc off | bcs off | beq off | bne off | bmi off | bpl off | bvc off | bvs off => exact absurd (of_decide_eq_true rfl) h
  | _ => simp [cyclePenalty, cycleClass, Instr.operand]

/-- The offset of a branch is added as a signed number modulo 65536 (40_addressing_modes.md R113). -/
theorem branchTarget_eq_ofInt (off : Byte) (s : State) : branchTarget off s = BitVec.ofInt 16 (s.pc.toNat + off.toInt) := by
  rw [branchTarget, sext16, BitVec.ofInt_add, BitVec.signExtend, BitVec.ofInt_natCast, BitVec.ofNat_toNat, BitVec.setWidth_eq]

/-- Settles O48. The cost is the base and the penalty, and a penalty is a page crossing of the index addition or of the branch. -/
theorem pageCrossingsAreChargedToReadsAndBranches : Obligations.PageCrossingsAreChargedToReadsAndBranches := by
  unfold Obligations.PageCrossingsAreChargedToReadsAndBranches
  intro s zp off addr cost page plus
  have plus_eq (b : Addr) (r : Byte) : plus b r = if pagesDiffer (b + zext16 r) b then 1 else 0 := by
    simp only [plus, page, pagesDiffer_eq_decide, zext16_eq_ofNat, decide_eq_true_eq]
  have absx {i : Instr} (reads : cycleClass i = .read) (operand : i.operand = .mem (.absx addr)) (base : config.cycleTable i.opcode = 4) :
      cost i = 4 + plus addr s.x := by
    rw [plus_eq]
    exact cycleCost_read reads operand base rfl
  have absy {i : Instr} (reads : cycleClass i = .read) (operand : i.operand = .mem (.absy addr)) (base : config.cycleTable i.opcode = 4) :
      cost i = 4 + plus addr s.y := by
    rw [plus_eq]
    exact cycleCost_read reads operand base rfl
  have indy {i : Instr} (reads : cycleClass i = .read) (operand : i.operand = .mem (.indy zp)) (base : config.cycleTable i.opcode = 5) :
      cost i = 5 + plus (s.readZeroPage16 zp) s.y := by
    rw [plus_eq]
    exact cycleCost_read reads operand base rfl
  have branch {i : Instr} (cond : Cond) (branches : cycleClass i = .branch cond) (operand : i.operand = .rel off)
      (base : config.cycleTable i.opcode = 2) :
      cost i = if s.flags.holds cond then (if page (BitVec.ofInt 16 (s.pc.toNat + off.toInt)) ≠ page s.pc then 4 else 3) else 2 := by
    simp only [cost, page, cycleCost_branch config.cycleTable s branches operand, base, branchCrossed, pagesDiffer_eq_decide, branchTarget_eq_ofInt,
      decide_eq_true_eq]
    split_ifs <;> rfl
  simp only [List.forall_mem_cons, List.not_mem_nil, false_implies, implies_true, and_true]
  refine ⟨?absx, ?absy, ?indy, ⟨rfl, rfl⟩, rfl, ⟨rfl, rfl, rfl, rfl, rfl, rfl⟩, ?branches, fun i h => ?others⟩
  case absx =>
    exact ⟨absx rfl rfl rfl, absx rfl rfl rfl, absx rfl rfl rfl, absx rfl rfl rfl, absx rfl rfl rfl, absx rfl rfl rfl, absx rfl rfl rfl,
      absx rfl rfl rfl⟩
  case absy =>
    exact ⟨absy rfl rfl rfl, absy rfl rfl rfl, absy rfl rfl rfl, absy rfl rfl rfl, absy rfl rfl rfl, absy rfl rfl rfl, absy rfl rfl rfl,
      absy rfl rfl rfl⟩
  case indy => exact ⟨indy rfl rfl rfl, indy rfl rfl rfl, indy rfl rfl rfl, indy rfl rfl rfl, indy rfl rfl rfl, indy rfl rfl rfl, indy rfl rfl rfl⟩
  case branches =>
    exact ⟨branch .carryClear rfl rfl rfl, branch .carrySet rfl rfl rfl, branch .equal rfl rfl rfl, branch .notEqual rfl rfl rfl,
      branch .minus rfl rfl rfl, branch .plus rfl rfl rfl, branch .overflowClear rfl rfl rfl, branch .overflowSet rfl rfl rfl⟩
  case others => exact congrArg (config.cycleTable i.opcode + ·) (cyclePenalty_eq_zero h s)

end Sys2Proof.Machine
end

section
/-! The counters (70_reset_and_hazards.md R285): no meaning of a defined opcode reads or writes them. -/

namespace Sys2Proof.Machine

/-- Elapsed cycles and remaining budget, set at once. -/
def State.setCounters (cycles : Nat) (budget : Int) (s : State) : State := { s with cycles := cycles, budget := budget }

theorem State.branch_setCounters (s : State) (cycles : Nat) (budget : Int) (cond : Cond) (off : Byte) :
    (s.setCounters cycles budget).branch cond off = (s.branch cond off).setCounters cycles budget := by
  rw [State.branch_eq, State.branch_eq]
  rfl

/-- The illegal opcode is left out, since its record holds the cycles (60_exceptions.md R231). -/
theorem exec_setCounters {i : Instr} (hi : ∀ op, i ≠ .illegal op) {s t : State} (h : exec i s = .next t) (cycles : Nat) (budget : Int) :
    exec i (s.setCounters cycles budget) = .next (t.setCounters cycles budget) := by
  cases i with
  | illegal op => exact absurd rfl (hi op)
  | bcc off | bcs off | beq off | bne off | bmi off | bpl off | bvc off | bvs off =>
    cases h
    exact congrArg Host.Outcome.next (s.branch_setCounters cycles budget _ off)
  | _ => cases h; rfl

theorem cycleCost_setCounters (table : Byte → Nat) (i : Instr) (s : State) (cycles : Nat) (budget : Int) :
    cycleCost table i (s.setCounters cycles budget) = cycleCost table i s := rfl

/-- A fetch that completes does so at any counters, at the same cost. -/
theorem runInstruction_setCounters {s t : State} (hh : s.halted = false) (h : runInstruction config s = .next t) (cycles : Nat) (budget : Int) :
    ∃ n : Nat, t.cycles = s.cycles + n ∧ t.budget = s.budget - n ∧
      runInstruction config (s.setCounters cycles budget) = .next (t.setCounters (cycles + n) (budget - n)) := by
  obtain ⟨_, -, faults⟩ | ⟨i, u, fetched, legal, executes, same, completes⟩ := runInstruction_cases config hh
  · rw [faults] at h; cases h
  · rw [completes] at h
    cases h
    obtain ⟨u', executes', -, completes'⟩ := runInstruction_of_legal config (s := s.setCounters cycles budget) hh fetched legal
    rw [execWith_config] at executes executes'
    cases executes'.symm.trans (exec_setCounters legal executes cycles budget)
    refine ⟨cycleCost config.cycleTable i (s.advance i), ?_, ?_, completes'⟩
    · rw [State.charge_cycles, same.cycles]
    · rw [State.charge_budget, same.budget]

/-- Settles O49. Of the steps that complete, the NMI entry reads no counter, and a fetch none. -/
theorem timingChangesNothingElse : Obligations.TimingChangesNothingElse := by
  unfold Obligations.TimingChangesNothingElse
  intro s t cycles budget h
  rw [step] at h
  obtain ⟨-, e⟩ | ⟨-, -, e⟩ | ⟨hr, hh, hn, e⟩ | ⟨hr, hh, hn, e⟩ := stepWith_cases config s <;> rw [e] at h
  · cases h
  · cases h
  · cases h
    refine ⟨nmiCycles, ?_, ?_, stepWith_nmi config (s := s.setCounters cycles budget) hr hh hn⟩
    · rw [State.charge_cycles, State.enterNmi, State.enterTrap_cycles]
    · rw [State.charge_budget, State.enterNmi, State.enterTrap_budget]
  · obtain ⟨n, spent, left, completes⟩ := runInstruction_setCounters hh h cycles budget
    exact ⟨n, spent, left, (stepWith_fetch config (s := s.setCounters cycles budget) hr hh hn).trans completes⟩

end Sys2Proof.Machine
end

section
/-! SUPPORT. Opcode bytes by what their instructions write (30_encoding.md R86), from which the lists of writers are put together. -/

namespace Sys2Proof.Machine

/-- LDA. -/
def ldaOpcodes : List Byte := [0xA9, 0xA5, 0xB5, 0xAD, 0xBD, 0xB9, 0xA1, 0xB1]

/-- LDX. -/
def ldxOpcodes : List Byte := [0xA2, 0xA6, 0xB6, 0xAE, 0xBE]

/-- LDY. -/
def ldyOpcodes : List Byte := [0xA0, 0xA4, 0xB4, 0xAC, 0xBC]

/-- STA, STX, STY. -/
def storeOpcodes : List Byte := [0x85, 0x95, 0x8D, 0x9D, 0x99, 0x81, 0x91, 0x86, 0x96, 0x8E, 0x84, 0x94, 0x8C]

/-- ADC and SBC. -/
def arithmeticOpcodes : List Byte :=
  [0x69, 0x65, 0x75, 0x6D, 0x7D, 0x79, 0x61, 0x71, 0xE9, 0xE5, 0xF5, 0xED, 0xFD, 0xF9, 0xE1, 0xF1]

/-- AND, ORA, EOR. -/
def logicOpcodes : List Byte :=
  [0x29, 0x25, 0x35, 0x2D, 0x3D, 0x39, 0x21, 0x31, 0x09, 0x05, 0x15, 0x0D, 0x1D, 0x19, 0x01, 0x11, 0x49, 0x45, 0x55, 0x4D, 0x5D, 0x59, 0x41, 0x51]

/-- CMP, CPX, CPY. -/
def compareOpcodes : List Byte := [0xC9, 0xC5, 0xD5, 0xCD, 0xDD, 0xD9, 0xC1, 0xD1, 0xE0, 0xE4, 0xEC, 0xC0, 0xC4, 0xCC]

/-- INC and DEC. -/
def countOpcodes : List Byte := [0xE6, 0xF6, 0xEE, 0xFE, 0xC6, 0xD6, 0xCE, 0xDE]

/-- ASL, LSR, ROL, ROR, the accumulator form of each first. -/
def shiftOpcodes : List Byte :=
  [0x0A, 0x06, 0x16, 0x0E, 0x1E, 0x4A, 0x46, 0x56, 0x4E, 0x5E, 0x2A, 0x26, 0x36, 0x2E, 0x3E, 0x6A, 0x66, 0x76, 0x6E, 0x7E]

/-- The memory forms of the same. -/
def memoryShiftOpcodes : List Byte := [0x06, 0x16, 0x0E, 0x1E, 0x46, 0x56, 0x4E, 0x5E, 0x26, 0x36, 0x2E, 0x3E, 0x66, 0x76, 0x6E, 0x7E]

end Sys2Proof.Machine
end

section
/-! The table of flags written (10_state.md R24), a lemma for each column: the writers are named, and the meanings of the others do not touch the flag. A branch comes
apart from them, since its next state is one of two (45_control_flow.md R203). -/

namespace Sys2Proof.Machine

variable {i : Instr} {s t : State}

/-- CLD, SED, PLP, RTI. -/
def decimalWriters : List Byte := [0xD8, 0xF8, 0x28, 0x40]

theorem exec_keeps_d (h : exec i s = .next t) (spared : i.opcode ∉ decimalWriters) : t.flags.d = s.flags.d := by
  cases i with
  | cld | sed | plp | rti => exact absurd (of_decide_eq_true rfl) spared
  | bcc off | bcs off | beq off | bne off | bmi off | bpl off | bvc off | bvs off => cases h; rw [State.branch_eq]
  | _ => cases h; rfl

/-- CLI, SEI, PLP, RTI, BRK. -/
def interruptWriters : List Byte := [0x58, 0x78, 0x28, 0x40, 0x00]

theorem exec_keeps_i (h : exec i s = .next t) (spared : i.opcode ∉ interruptWriters) : t.flags.i = s.flags.i := by
  cases i with
  | cli | sei | plp | rti | brk => exact absurd (of_decide_eq_true rfl) spared
  | bcc off | bcs off | beq off | bne off | bmi off | bpl off | bvc off | bvs off => cases h; rw [State.branch_eq]
  | _ => cases h; rfl

/-- PLP, RTI, BRK. -/
def breakWriters : List Byte := [0x28, 0x40, 0x00]

theorem exec_keeps_b (h : exec i s = .next t) (spared : i.opcode ∉ breakWriters) : t.flags.b = s.flags.b := by
  cases i with
  | plp | rti | brk => exact absurd (of_decide_eq_true rfl) spared
  | bcc off | bcs off | beq off | bne off | bmi off | bpl off | bvc off | bvs off => cases h; rw [State.branch_eq]
  | _ => cases h; rfl

/-- ADC, SBC, BIT, CLV, PLP, RTI. -/
def overflowWriters : List Byte := arithmeticOpcodes ++ [0x24, 0x2C, 0xB8, 0x28, 0x40]

theorem exec_keeps_v (h : exec i s = .next t) (spared : i.opcode ∉ overflowWriters) : t.flags.v = s.flags.v := by
  cases i with
  | adcImm m | adcZp m | adcZpx m | adcAbs m | adcAbsx m | adcAbsy m | adcIndx m | adcIndy m
  | sbcImm m | sbcZp m | sbcZpx m | sbcAbs m | sbcAbsx m | sbcAbsy m | sbcIndx m | sbcIndy m
  | bitZp m | bitAbs m | clv | plp | rti => exact absurd (of_decide_eq_true rfl) spared
  | bcc off | bcs off | beq off | bne off | bmi off | bpl off | bvc off | bvs off => cases h; rw [State.branch_eq]
  | _ => cases h; rfl

/-- ADC, SBC, the shifts and rotates, the compares, CLC, SEC, PLP, RTI. -/
def carryWriters : List Byte := arithmeticOpcodes ++ shiftOpcodes ++ compareOpcodes ++ [0x18, 0x38, 0x28, 0x40]

theorem exec_keeps_c (h : exec i s = .next t) (spared : i.opcode ∉ carryWriters) : t.flags.c = s.flags.c := by
  cases i with
  | adcImm m | adcZp m | adcZpx m | adcAbs m | adcAbsx m | adcAbsy m | adcIndx m | adcIndy m
  | sbcImm m | sbcZp m | sbcZpx m | sbcAbs m | sbcAbsx m | sbcAbsy m | sbcIndx m | sbcIndy m
  | aslAcc | aslZp m | aslZpx m | aslAbs m | aslAbsx m | lsrAcc | lsrZp m | lsrZpx m | lsrAbs m | lsrAbsx m
  | rolAcc | rolZp m | rolZpx m | rolAbs m | rolAbsx m | rorAcc | rorZp m | rorZpx m | rorAbs m | rorAbsx m
  | cmpImm m | cmpZp m | cmpZpx m | cmpAbs m | cmpAbsx m | cmpAbsy m | cmpIndx m | cmpIndy m
  | cpxImm m | cpxZp m | cpxAbs m | cpyImm m | cpyZp m | cpyAbs m | clc | sec | plp | rti => exact absurd (of_decide_eq_true rfl) spared
  | bcc off | bcs off | beq off | bne off | bmi off | bpl off | bvc off | bvs off => cases h; rw [State.branch_eq]
  | _ => cases h; rfl

/-- What produces a data byte, the compares, BIT, PLP, RTI. -/
def resultWriters : List Byte :=
  ldaOpcodes ++ ldxOpcodes ++ ldyOpcodes ++ [0xAA, 0xA8, 0x8A, 0x98, 0xBA, 0x68] ++ logicOpcodes ++ countOpcodes ++ [0xE8, 0xC8, 0xCA, 0x88] ++
    arithmeticOpcodes ++ shiftOpcodes ++ compareOpcodes ++ [0x24, 0x2C, 0x28, 0x40]

/-- Here the writers are the many, so the others are named. -/
theorem exec_keeps_n_and_z (h : exec i s = .next t) (spared : i.opcode ∉ resultWriters) : t.flags.n = s.flags.n ∧ t.flags.z = s.flags.z := by
  cases i with
  | staZp m | staZpx m | staAbs m | staAbsx m | staAbsy m | staIndx m | staIndy m | stxZp m | stxZpy m | stxAbs m | styZp m | styZpx m | styAbs m
  | txs | pha | php | clc | sec | cli | sei | clv | cld | sed | nop | jmpAbs m | jmpInd m | jsr m | rts | brk | illegal op => cases h; exact ⟨rfl, rfl⟩
  | bcc off | bcs off | beq off | bne off | bmi off | bpl off | bvc off | bvs off => cases h; rw [State.branch_eq]; exact ⟨rfl, rfl⟩
  | _ => exact absurd (of_decide_eq_true rfl) spared

end Sys2Proof.Machine

namespace Sys2Proof.Machine

/-- Settles O51. The columns of the table. -/
theorem flagsChangeOnlyWhereTheTableSays : Obligations.FlagsChangeOnlyWhereTheTableSays := by
  unfold Obligations.FlagsChangeOnlyWhereTheTableSays
  intro i s t h
  exact ⟨exec_keeps_d h, exec_keeps_i h, exec_keeps_b h, exec_keeps_v h, exec_keeps_c h, exec_keeps_n_and_z h⟩

end Sys2Proof.Machine
end

section
/-! The writers of registers, memory and PPU records (10_state.md R10, R11, R31 to R36, 20_memory.md R46), in the same way. -/

namespace Sys2Proof.Machine

variable {i : Instr} {s t : State}

/-- LDA, TXA, TYA, ADC, SBC, AND, ORA, EOR, PLA and the accumulator forms of the shifts and rotates. -/
def aWriters : List Byte := ldaOpcodes ++ [0x8A, 0x98] ++ arithmeticOpcodes ++ logicOpcodes ++ [0x68, 0x0A, 0x4A, 0x2A, 0x6A]

theorem exec_keeps_a (h : exec i s = .next t) (spared : i.opcode ∉ aWriters) : t.a = s.a := by
  cases i with
  | ldaImm m | ldaZp m | ldaZpx m | ldaAbs m | ldaAbsx m | ldaAbsy m | ldaIndx m | ldaIndy m | txa | tya
  | adcImm m | adcZp m | adcZpx m | adcAbs m | adcAbsx m | adcAbsy m | adcIndx m | adcIndy m
  | sbcImm m | sbcZp m | sbcZpx m | sbcAbs m | sbcAbsx m | sbcAbsy m | sbcIndx m | sbcIndy m
  | andImm m | andZp m | andZpx m | andAbs m | andAbsx m | andAbsy m | andIndx m | andIndy m
  | oraImm m | oraZp m | oraZpx m | oraAbs m | oraAbsx m | oraAbsy m | oraIndx m | oraIndy m
  | eorImm m | eorZp m | eorZpx m | eorAbs m | eorAbsx m | eorAbsy m | eorIndx m | eorIndy m
  | pla | aslAcc | lsrAcc | rolAcc | rorAcc => exact absurd (of_decide_eq_true rfl) spared
  | brk => cases h; exact State.enterTrap_a _ _ _ _
  | bcc off | bcs off | beq off | bne off | bmi off | bpl off | bvc off | bvs off => cases h; rw [State.branch_eq]
  | _ => cases h; rfl

/-- LDX, TAX, TSX, INX, DEX. -/
def xWriters : List Byte := ldxOpcodes ++ [0xAA, 0xBA, 0xE8, 0xCA]

theorem exec_keeps_x (h : exec i s = .next t) (spared : i.opcode ∉ xWriters) : t.x = s.x := by
  cases i with
  | ldxImm m | ldxZp m | ldxZpy m | ldxAbs m | ldxAbsy m | tax | tsx | inx | dex => exact absurd (of_decide_eq_true rfl) spared
  | brk => cases h; exact State.enterTrap_x _ _ _ _
  | bcc off | bcs off | beq off | bne off | bmi off | bpl off | bvc off | bvs off => cases h; rw [State.branch_eq]
  | _ => cases h; rfl

/-- LDY, TAY, INY, DEY. -/
def yWriters : List Byte := ldyOpcodes ++ [0xA8, 0xC8, 0x88]

theorem exec_keeps_y (h : exec i s = .next t) (spared : i.opcode ∉ yWriters) : t.y = s.y := by
  cases i with
  | ldyImm m | ldyZp m | ldyZpx m | ldyAbs m | ldyAbsx m | tay | iny | dey => exact absurd (of_decide_eq_true rfl) spared
  | brk => cases h; exact State.enterTrap_y _ _ _ _
  | bcc off | bcs off | beq off | bne off | bmi off | bpl off | bvc off | bvs off => cases h; rw [State.branch_eq]
  | _ => cases h; rfl

/-- TXS, PHA, PLA, PHP, PLP, JSR, RTS, BRK, RTI. -/
def spWriters : List Byte := [0x9A, 0x48, 0x68, 0x08, 0x28, 0x20, 0x60, 0x00, 0x40]

theorem exec_keeps_sp (h : exec i s = .next t) (spared : i.opcode ∉ spWriters) : t.sp = s.sp := by
  cases i with
  | txs | pha | pla | php | plp | jsr addr | rts | brk | rti => exact absurd (of_decide_eq_true rfl) spared
  | bcc off | bcs off | beq off | bne off | bmi off | bpl off | bvc off | bvs off => cases h; rw [State.branch_eq]
  | _ => cases h; rfl

/-- The stores, the read-modify-write forms, PHA, PHP, JSR, BRK. -/
def memoryWriters : List Byte := storeOpcodes ++ countOpcodes ++ [0x48, 0x08, 0x20, 0x00] ++ memoryShiftOpcodes

theorem exec_keeps_mem (h : exec i s = .next t) (spared : i.opcode ∉ memoryWriters) : t.mem = s.mem := by
  cases i with
  | staZp m | staZpx m | staAbs m | staAbsx m | staAbsy m | staIndx m | staIndy m | stxZp m | stxZpy m | stxAbs m | styZp m | styZpx m | styAbs m
  | incZp m | incZpx m | incAbs m | incAbsx m | decZp m | decZpx m | decAbs m | decAbsx m
  | aslZp m | aslZpx m | aslAbs m | aslAbsx m | lsrZp m | lsrZpx m | lsrAbs m | lsrAbsx m
  | rolZp m | rolZpx m | rolAbs m | rolAbsx m | rorZp m | rorZpx m | rorAbs m | rorAbsx m
  | pha | php | jsr addr | brk => exact absurd (of_decide_eq_true rfl) spared
  | bcc off | bcs off | beq off | bne off | bmi off | bpl off | bvc off | bvs off => cases h; rw [State.branch_eq]
  | _ => cases h; rfl

/-- The stores and the read-modify-write forms. -/
def ppuWriters : List Byte := storeOpcodes ++ countOpcodes ++ memoryShiftOpcodes

/-- A push writes memory but no PPU record, since the stack page lies outside the register window. -/
theorem exec_keeps_ppu (h : exec i s = .next t) (spared : i.opcode ∉ ppuWriters) : t.ppu = s.ppu := by
  cases i with
  | staZp m | staZpx m | staAbs m | staAbsx m | staAbsy m | staIndx m | staIndy m | stxZp m | stxZpy m | stxAbs m | styZp m | styZpx m | styAbs m
  | incZp m | incZpx m | incAbs m | incAbsx m | decZp m | decZpx m | decAbs m | decAbsx m
  | aslZp m | aslZpx m | aslAbs m | aslAbsx m | lsrZp m | lsrZpx m | lsrAbs m | lsrAbsx m
  | rolZp m | rolZpx m | rolAbs m | rolAbsx m | rorZp m | rorZpx m | rorAbs m | rorAbsx m => exact absurd (of_decide_eq_true rfl) spared
  | pha | php => cases h; exact s.push8_ppu _
  | jsr addr => cases h; exact s.push16_ppu _
  | brk => cases h; exact State.enterTrap_ppu _ _ _ _
  | bcc off | bcs off | beq off | bne off | bmi off | bpl off | bvc off | bvs off => cases h; rw [State.branch_eq]
  | _ => cases h; rfl

end Sys2Proof.Machine

namespace Sys2Proof.Machine

/-- Settles O52. A memory that is kept is kept byte by byte. -/
theorem registersAndMemoryChangeOnlyByTheirWriters : Obligations.RegistersAndMemoryChangeOnlyByTheirWriters := by
  unfold Obligations.RegistersAndMemoryChangeOnlyByTheirWriters
  intro i s t h
  have kept (spared : i.opcode ∉ memoryWriters) : t.mem = s.mem ∧ ∀ b : Addr, t.rawRead b = s.rawRead b :=
    ⟨exec_keeps_mem h spared, fun b => congrArg (Memory.read · b.toNat) (exec_keeps_mem h spared)⟩
  exact ⟨exec_keeps_a h, exec_keeps_x h, exec_keeps_y h, exec_keeps_sp h, kept, exec_keeps_ppu h⟩

end Sys2Proof.Machine
end

section
/-! Loads, transfers, logic and the register counters (41_load_store_transfer.md R120 to R122, R126 to R131, 42_arithmetic_logic.md R144 to R146, R154 to R157): one
register written, Z and N from it. -/

namespace Sys2Proof.Machine

theorem State.loadA_eq (s : State) (m : Byte) : s.loadA m = { s with a := m, flags := zn m s.flags } := by
  rw [← Flags.setZN_eq_zn]; rfl

theorem State.loadX_eq (s : State) (m : Byte) : s.loadX m = { s with x := m, flags := zn m s.flags } := by
  rw [← Flags.setZN_eq_zn]; rfl

theorem State.loadY_eq (s : State) (m : Byte) : s.loadY m = { s with y := m, flags := zn m s.flags } := by
  rw [← Flags.setZN_eq_zn]; rfl

/-- Settles O13. All eight forms load A, with one operand byte. -/
theorem ldaLoadsTheOperand : Obligations.LdaLoadsTheOperand := by
  unfold Obligations.LdaLoadsTheOperand
  intro s v zp addr result
  have loadA_eq (m : Byte) : s.loadA m = result m := s.loadA_eq m
  simp only [← loadA_eq, wordBytes_eq]
  exact ⟨⟨rfl, rfl⟩, ⟨rfl, rfl⟩, ⟨rfl, rfl⟩, ⟨rfl, rfl⟩, ⟨rfl, rfl⟩, ⟨rfl, rfl⟩, ⟨rfl, rfl⟩, ⟨rfl, rfl⟩⟩

/-- Settles O14. The forms of LDX load X, those of LDY load Y. -/
theorem ldxAndLdyLoadTheOperand : Obligations.LdxAndLdyLoadTheOperand := by
  unfold Obligations.LdxAndLdyLoadTheOperand
  intro s v zp addr resultX resultY
  have loadX_eq (m : Byte) : s.loadX m = resultX m := s.loadX_eq m
  have loadY_eq (m : Byte) : s.loadY m = resultY m := s.loadY_eq m
  simp only [← loadX_eq, ← loadY_eq, wordBytes_eq]
  exact ⟨⟨rfl, rfl⟩, ⟨rfl, rfl⟩, ⟨rfl, rfl⟩, ⟨rfl, rfl⟩, ⟨rfl, rfl⟩, ⟨rfl, rfl⟩, ⟨rfl, rfl⟩, ⟨rfl, rfl⟩, ⟨rfl, rfl⟩, ⟨rfl, rfl⟩⟩

/-- Settles O17. A transfer is a load of the source register; TXS alone writes no flag. -/
theorem transfersCopyARegister : Obligations.TransfersCopyARegister := by
  unfold Obligations.TransfersCopyARegister
  intro s
  simp only [← State.loadA_eq, ← State.loadX_eq, ← State.loadY_eq]
  exact ⟨⟨rfl, rfl⟩, ⟨rfl, rfl⟩, ⟨rfl, rfl⟩, ⟨rfl, rfl⟩, ⟨rfl, rfl⟩, ⟨rfl, rfl⟩⟩

/-- Settles O22. Each operation loads A with the combination of A and the operand byte. -/
theorem logicCombinesBitwise : Obligations.LogicCombinesBitwise := by
  unfold Obligations.LogicCombinesBitwise
  intro s v zp addr result andResult orResult eorResult
  have loadA_eq (r : Byte) : s.loadA r = result r := s.loadA_eq r
  simp only [andResult, orResult, eorResult, ← loadA_eq, wordBytes_eq]
  exact ⟨⟨rfl, rfl⟩, ⟨rfl, rfl⟩, ⟨rfl, rfl⟩, ⟨rfl, rfl⟩, ⟨rfl, rfl⟩, ⟨rfl, rfl⟩, ⟨rfl, rfl⟩, ⟨rfl, rfl⟩,
    ⟨rfl, rfl⟩, ⟨rfl, rfl⟩, ⟨rfl, rfl⟩, ⟨rfl, rfl⟩, ⟨rfl, rfl⟩, ⟨rfl, rfl⟩, ⟨rfl, rfl⟩, ⟨rfl, rfl⟩,
    ⟨rfl, rfl⟩, ⟨rfl, rfl⟩, ⟨rfl, rfl⟩, ⟨rfl, rfl⟩, ⟨rfl, rfl⟩, ⟨rfl, rfl⟩, ⟨rfl, rfl⟩, ⟨rfl, rfl⟩⟩

/-- INC, INX and INY in numbers (42_arithmetic_logic.md R152, R154, R155). -/
theorem increment_eq (m : Byte) (f : Flags) :
    increment m f = (BitVec.ofNat 8 ((m.toNat + 1) % 256), zn (BitVec.ofNat 8 ((m.toNat + 1) % 256)) f) := by
  have result : m + 1 = BitVec.ofNat 8 ((m.toNat + 1) % 256) := by bv_omega
  rw [increment, Flags.setZN_eq_zn, result]

/-- DEC, DEX and DEY in numbers: modulo 256 one less is 255 more (42_arithmetic_logic.md R153, R156, R157). -/
theorem decrement_eq (m : Byte) (f : Flags) :
    decrement m f = (BitVec.ofNat 8 ((m.toNat + 255) % 256), zn (BitVec.ofNat 8 ((m.toNat + 255) % 256)) f) := by
  have result : m - 1 = BitVec.ofNat 8 ((m.toNat + 255) % 256) := by bv_omega
  rw [decrement, Flags.setZN_eq_zn, result]

/-- Settles O26. Each counts in one register. -/
theorem indexRegistersCount : Obligations.IndexRegistersCount := by
  unfold Obligations.IndexRegistersCount
  intro s inc dec
  have inc_eq (m : Byte) : increment m s.flags = (inc m, zn (inc m) s.flags) := increment_eq m s.flags
  have dec_eq (m : Byte) : decrement m s.flags = (dec m, zn (dec m) s.flags) := decrement_eq m s.flags
  refine ⟨⟨rfl, ?inx⟩, ⟨rfl, ?iny⟩, ⟨rfl, ?dex⟩, ⟨rfl, ?dey⟩⟩
  case inx => simp only [exec, execInx, State.modifyX, inc_eq]; rfl
  case iny => simp only [exec, execIny, State.modifyY, inc_eq]; rfl
  case dex => simp only [exec, execDex, State.modifyX, dec_eq]; rfl
  case dey => simp only [exec, execDey, State.modifyY, dec_eq]; rfl

/-- Settles O25. The memory forms of the same. -/
theorem incAndDecCountInMemory : Obligations.IncAndDecCountInMemory := by
  unfold Obligations.IncAndDecCountInMemory
  intro s zp addr inc dec incFlags decFlags
  have inc_eq (m : Byte) : increment m s.flags = (inc m, incFlags m) := increment_eq m s.flags
  have dec_eq (m : Byte) : decrement m s.flags = (dec m, decFlags m) := decrement_eq m s.flags
  rw [wordBytes_eq]
  exact ⟨.of_modifyOperand rfl rfl (inc_eq _), .of_modifyOperand rfl rfl (inc_eq _), .of_modifyOperand rfl rfl (inc_eq _),
    .of_modifyOperand rfl rfl (inc_eq _), .of_modifyOperand rfl rfl (dec_eq _), .of_modifyOperand rfl rfl (dec_eq _),
    .of_modifyOperand rfl rfl (dec_eq _), .of_modifyOperand rfl rfl (dec_eq _)⟩

end Sys2Proof.Machine
end

section
/-! Stores (41_load_store_transfer.md R123 to R125): one bus write. -/

namespace Sys2Proof.Machine

theorem Stores.of_busWrite {i : Instr} {bytes : List Byte} {s : State} {addr : Addr} {v : Byte} (encoded : encode i = bytes)
    (runs : exec i s = .next (s.busWrite addr v)) : Stores i bytes s addr v s.flags :=
  ⟨encoded, _, runs, rfl, fun b => s.rawRead_busWrite addr b v⟩

/-- Settles O15. All seven forms write A. -/
theorem staStoresAtItsAddress : Obligations.StaStoresAtItsAddress := by
  unfold Obligations.StaStoresAtItsAddress
  intro s zp addr
  rw [wordBytes_eq]
  exact ⟨.of_busWrite rfl rfl, .of_busWrite rfl rfl, .of_busWrite rfl rfl, .of_busWrite rfl rfl, .of_busWrite rfl rfl, .of_busWrite rfl rfl,
    .of_busWrite rfl rfl⟩

/-- Settles O16. The forms of STX write X, those of STY write Y. -/
theorem stxAndStyStoreAtTheirAddress : Obligations.StxAndStyStoreAtTheirAddress := by
  unfold Obligations.StxAndStyStoreAtTheirAddress
  intro s zp addr
  rw [wordBytes_eq]
  exact ⟨.of_busWrite rfl rfl, .of_busWrite rfl rfl, .of_busWrite rfl rfl, .of_busWrite rfl rfl, .of_busWrite rfl rfl, .of_busWrite rfl rfl⟩

end Sys2Proof.Machine
end

section
/-! Flag instructions and branches (44_stack_flags_nop.md R184 to R191, 45_control_flow.md R203 to R211). -/

namespace Sys2Proof.Machine

/-- Settles O32. Each meaning is one record update. -/
theorem flagInstructionsWriteOneFlag : Obligations.FlagInstructionsWriteOneFlag := by
  unfold Obligations.FlagInstructionsWriteOneFlag
  intro s
  exact ⟨⟨rfl, rfl⟩, ⟨rfl, rfl⟩, ⟨rfl, rfl⟩, ⟨rfl, rfl⟩, ⟨rfl, rfl⟩, ⟨rfl, rfl⟩, ⟨rfl, rfl⟩, ⟨rfl, rfl⟩⟩

/-- Settles O35. All eight are one branch, on one condition each. -/
theorem branchesTestOneFlag : Obligations.BranchesTestOneFlag := by
  unfold Obligations.BranchesTestOneFlag
  intro s off goes
  have branch_eq (cond : Cond) : s.branch cond off = goes (s.flags.holds cond) := by
    simp only [goes, State.branch, branchTarget_eq_ofInt]
    rfl
  have branches (cond : Cond) {i : Instr} {op : Byte} (encoded : encode i = [op, off]) (runs : exec i s = .next (s.branch cond off)) :
      Does i [op, off] s (goes (s.flags.holds cond)) := ⟨encoded, branch_eq cond ▸ runs⟩
  exact ⟨branches .carryClear rfl rfl, branches .carrySet rfl rfl, branches .equal rfl rfl, branches .notEqual rfl rfl, branches .minus rfl rfl,
    branches .plus rfl rfl, branches .overflowClear rfl rfl, branches .overflowSet rfl rfl⟩

end Sys2Proof.Machine
end

section
/-! The halted state and the reset (60_exceptions.md R234, 70_reset_and_hazards.md R260 to R264). -/

namespace Sys2Proof.Machine

/-- A halted CPU's `runOneInstruction` and `tick` answer what its step answers. -/
theorem hostOp_of_halted {op : HostOp} (hop : op ∈ ([.runOneInstruction, .tick] : List HostOp)) {s : State} (hr : s.resetDone = true)
    (hh : s.halted = true) : hostOp op s = .fault (.illegalOpcode s.faultInfo s) := by
  have no_step : s.canStep = false := by simp [State.canStep, hh]
  rw [hostOp_of_some (hostOpWith_of_not_canStep config _ hop no_step), stepWith_halted config hr hh]

/-- `loadProgram` writes memory, or is refused (20_memory.md R72). -/
theorem loadProgram_cases (image : List Byte) (s : State) :
    loadProgram image s = .refused (.shortImage image.length) ∨ ∃ mem, loadProgram image s = .next { s with mem := mem } := by
  unfold loadProgram
  split
  · exact .inl rfl
  · exact .inr ⟨_, rfl⟩

/-- The host's operations that take no step and are no reset leave `halted` and its record alone. -/
theorem hostOp_keeps_halted {op : HostOp} (no_reset : op ≠ .reset) (no_step : op ∉ ([.runOneInstruction, .tick] : List HostOp)) (s : State) :
    (∃ r, hostOp op s = .refused r) ∨ ∃ t, hostOp op s = .next t ∧ t.halted = s.halted ∧ t.faultInfo = s.faultInfo := by
  cases op with
  | reset => exact absurd rfl no_reset
  | runOneInstruction | tick => exact absurd (of_decide_eq_true rfl) no_step
  | loadProgram image =>
    obtain refused | ⟨mem, loads⟩ := loadProgram_cases image s
    · exact .inl ⟨_, refused⟩
    · exact .inr ⟨_, loads, rfl, rfl⟩
  | resetMemory | triggerNmi | ppuStatusRead | ppuDataAccess => exact .inr ⟨_, rfl, rfl, rfl⟩

/-- Settles O41. The operations that step answer the recorded fault, and the others but `reset` do not touch it. -/
theorem haltedUntilReset : Obligations.HaltedUntilReset := by
  unfold Obligations.HaltedUntilReset
  intro s hr hh
  refine ⟨stepWith_halted config hr hh, hostOp_of_halted (by simp) hr hh, hostOp_of_halted (by simp) hr hh,
    stepWith_halted config (s := { s with nmiPending := true }) hr hh, ?events, fun op no_reset => ?operations, ⟨_, rfl, rfl, rfl⟩⟩
  case events =>
    simp only [List.forall_mem_cons, List.not_mem_nil, false_implies, implies_true, and_true]
    exact ⟨⟨_, rfl, hh, rfl⟩, ⟨_, rfl, hh, rfl⟩, ⟨_, rfl, hh, rfl⟩, ⟨_, rfl, hh, rfl⟩⟩
  case operations =>
    by_cases steps : op ∈ ([.runOneInstruction, .tick] : List HostOp)
    · rw [hostOp_of_halted steps hr hh]
      exact ⟨fun _ h => (by cases h), fun _ h => (by cases h; rfl)⟩
    · obtain ⟨r, refused⟩ | ⟨u, completes, halted, record⟩ := hostOp_keeps_halted no_reset steps s
      · rw [refused]
        exact ⟨fun _ h => (by cases h), fun _ h => (by cases h)⟩
      · rw [completes]
        exact ⟨fun _ h => (by cases h; exact ⟨halted.trans hh, record⟩), fun _ h => (by cases h)⟩

theorem State.busRead16_resetMemory (s : State) (a : Addr) : s.resetMemory.busRead16 a = 0 := by
  change concat16 0 0 = 0
  decide

/-- Settles O42. The reset is one record update, after memory is kept or zeroed; of zeroed memory the vector is 0. -/
theorem resetLeavesTheResetState : Obligations.ResetLeavesTheResetState := by
  unfold Obligations.ResetLeavesTheResetState
  refine ⟨fun s => ?kept, fun s b => ⟨rfl, s.busRead16_resetMemory resetVector, rfl, rfl⟩, rfl, fun s => stepWith_notReset config⟩
  case kept => rw [wordOf_eq_concat16]; rfl

end Sys2Proof.Machine
end

section
/-! The cycle table (70_reset_and_hazards.md R282). -/

namespace Sys2Proof.Machine

/-- Settles O47. The table is read at each byte of each list. -/
theorem baseCycleCosts : Obligations.BaseCycleCosts := by
  unfold Obligations.BaseCycleCosts
  decide

end Sys2Proof.Machine
end
